-- ==== Sys2Proof/Word.lean ====
section
/-! DEFINITION. The words whose width the source itself fixes (00_scope.md R6): a byte is 8 bits, the
sample code 10 bits, the codec selector one bit. Every other width is a parameter (Config.lean). -/

namespace Sys2Proof

/-- One of the "two 8-bit transfer words" of an exchange (R6). -/
abbrev Byte := BitVec 8

/-- The voltage_code, "unsigned integer in [0, 1023]" (R6, R20). -/
abbrev Code := BitVec 10

/-- CFG4 CODEC and the port cfg_codec: 0 = default codec, 1 = legacy codec (R26). -/
abbrev CodecSel := BitVec 1

end Sys2Proof
end

