-- ==== Sys2Proof/Config.lean ====
section
/-! DEFINITION. What an implementation fixes: the parameters of 00_scope.md R7, "each a named parameter
the model takes as an argument". Every register, port and rule of the model takes a `Params`; the
machine itself is `Generic` in it (Machine/Generic.lean), and the fixed names `State`, `exec`, `step` and
`core` are its instance at the values R7 names as defaults (log entry 3). -/

namespace Sys2Proof

/-- The open field widths of R7 (D13). -/
structure Params where
  /-- W_DELAY: each delay field and the delay counter. -/
  wDelay : Nat
  /-- W_TS: the timestamp. -/
  wTs : Nat
  /-- W_PIN: a pin identifier. -/
  wPin : Nat
  /-- W_CHAN: the ADC channel field. -/
  wChan : Nat
  /-- W_CAUSE: the failure cause code. -/
  wCause : Nat
  deriving DecidableEq, Repr

/-- The one condition R7 puts on the widths: W_CHAN is "at least 2 so that an invalid channel is
representable". No rule of the model needs it. -/
abbrev Params.legal (P : Params) : Prop := 2 ≤ P.wChan

/-- The defaults of R7. DESIGN CHOICE, unsafe where a claim leans on a width (log entry 3). -/
abbrev Config.params : Params :=
  { wDelay := 32, wTs := 32, wPin := 8, wChan := 8, wCause := 8 }

/-- The two orders in which a serial engine can shift the bits of a byte. -/
inductive BitOrder where
  | msbFirst
  | lsbFirst
  deriving DecidableEq, Repr, Inhabited

/-- T_TICK, the clock period, OPEN (R7, D2). No rule reads it (log entry 4). -/
opaque Config.tTick : Rat

/-- SPI_BIT_ORDER, OPEN, "no rule of ACQSEQ depends on it" (R7, R40, D32; log entry 4). -/
opaque Config.spiBitOrder : BitOrder

end Sys2Proof
end

