-- ==== Sys2Proof/Ports.lean ====
section
/-! DEFINITION. The interface of the block: the input ports of 10_state.md R32, the output ports of R33
and the free input line a tick samples when no script names one (log entry 1). `clk` is the step. -/

namespace Sys2Proof

/-- F-CFG, the bundle of the eight cfg_* input ports, in the order CFG0 to CFG7 (R58, R32). -/
structure CfgPorts (P : Params) where
  cfg_edge_pin : BitVec P.wPin
  cfg_reset_pin : BitVec P.wPin
  cfg_hold_pin : BitVec P.wPin
  cfg_adc_channel : BitVec P.wChan
  cfg_codec : CodecSel
  cfg_peak_delay : BitVec P.wDelay
  cfg_reset_settle_delay : BitVec P.wDelay
  cfg_reset_hold_duration : BitVec P.wDelay
  deriving DecidableEq, Repr, Inhabited

/-- The values on the input ports in one tick (R32). -/
structure Inputs (P : Params) where
  rst : Bool
  edge_in : Bool
  host_cmd : BitVec 2
  cfg : CfgPorts P
  rtc_in : BitVec P.wTs
  xfer_done : Bool
  xfer_err : Bool
  xfer_rx0 : Byte
  xfer_rx1 : Byte
  xfer_cause : BitVec P.wCause
  deriving DecidableEq, Repr, Inhabited

/-- The values on the output ports in one tick (R33). -/
structure Outputs (P : Params) where
  hold_out : Bool
  reset_out : Bool
  xfer_start : Bool
  xfer_tx0 : Byte
  xfer_tx1 : Byte
  sample_valid : Bool
  sample_ts : BitVec P.wTs
  sample_code : Code
  fail_valid : Bool
  fail_cause : BitVec P.wCause
  cfg_valid_out : Bool
  cfg_err_out : BitVec 3
  status_state : BitVec 3
  running : Bool
  edge_pin_id : BitVec P.wPin
  reset_pin_id : BitVec P.wPin
  hold_pin_id : BitVec P.wPin
  deriving DecidableEq, Repr

/-- The cfg_* ports with every bit 0. -/
def CfgPorts.zero (P : Params) : CfgPorts P :=
  { cfg_edge_pin := 0#P.wPin, cfg_reset_pin := 0#P.wPin, cfg_hold_pin := 0#P.wPin
    cfg_adc_channel := 0#P.wChan, cfg_codec := 0#1, cfg_peak_delay := 0#P.wDelay
    cfg_reset_settle_delay := 0#P.wDelay, cfg_reset_hold_duration := 0#P.wDelay }

/-- What the environment drives in a tick that no script line names: any value at all, `rst` included.
DESIGN CHOICE, safe: nothing can evaluate it or prove a value of it (log entry 1). -/
opaque Config.freeInputs (P : Params) : Nat → Inputs P

end Sys2Proof
end

