-- ==== Sys2Proof/Syntax.lean ====
section
/-! DEFINITION. The operations of the opcode table as syntax, one constructor per row of
spec/opcode_table.json (00_scope.md R3, 30_encoding.md R52, R53, R55), and the frames their words
travel in (R51). -/

namespace Sys2Proof

/-- The operands of LOAD_CONFIG as the tick script writes them, naturals not yet cut to a width:
`LOAD_CONFIG {EDGE_PIN=a, RESET_PIN=b, HOLD_PIN=c, …}` (R61). -/
structure AcqConfig where
  edgePin : Nat
  resetPin : Nat
  holdPin : Nat
  adcChannel : Nat
  codec : Nat
  peakDelay : Nat
  resetSettleDelay : Nat
  resetHoldDuration : Nat
  deriving DecidableEq, Repr

/-- The ten rows of the opcode table. The codec rows stand for the codec operation performed on that
word: the byte driven on xfer_tx0, the frame received on xfer_rx0 and xfer_rx1. -/
inductive Instr where
  /-- NOP, F-HOST 0b00 (R91). -/
  | nop
  /-- LOAD_CONFIG, F-HOST 0b01 with its F-CFG operands (R92). -/
  | loadConfig (a : AcqConfig)
  /-- START, F-HOST 0b10 (R94). -/
  | start
  /-- CANCEL, F-HOST 0b11 (R95). -/
  | cancel
  /-- ADC_CMD_CH0, byte 0x68 by the default encoder (R62). -/
  | adcCmdCh0
  /-- ADC_CMD_CH1, byte 0x78 by the default encoder (R62). -/
  | adcCmdCh1
  /-- ADC_CMD_CH0_LEGACY, byte 0x68 by the legacy encoder (R63). -/
  | adcCmdCh0Legacy
  /-- ADC_CMD_CH1_LEGACY, byte 0x78 by the legacy encoder (R63). -/
  | adcCmdCh1Legacy
  /-- ADC_RSP_DEFAULT, the frame (byte0, byte1) through the default decoder (R64). -/
  | adcRspDefault (b0 b1 : Byte)
  /-- ADC_RSP_LEGACY, the frame (byte0, byte1) through the legacy decoder (R65). -/
  | adcRspLegacy (b0 b1 : Byte)
  deriving DecidableEq, Repr

/-- The four host command codes of R52, without operands. -/
inductive HostCode where
  | nop
  | loadConfig
  | start
  | cancel
  deriving DecidableEq, Repr

/-- A word as it stands on the block's ports (R51): F-HOST with the F-CFG bundle beside it, F-CMD and
F-RX as byte strings, first byte first (R39). -/
inductive Frame (P : Params) where
  | host (host_cmd : BitVec 2) (cfg : CfgPorts P)
  | command (tx : List Byte)
  | response (rx : List Byte)
  deriving DecidableEq, Repr

/-- Why the decoder rejects a frame. -/
inductive DecodeError where
  /-- An F-CMD byte other than 0x68 and 0x78: "the 254 byte values … are never produced" (R59 (b)). -/
  | notACommandByte
  /-- An F-CMD frame that is not one byte or an F-RX frame that is not two (R60). -/
  | wrongLength
  deriving DecidableEq, Repr

end Sys2Proof
end

