-- ==== Sys2Proof/WellFormed.lean ====
section
/-! DEFINITION. When an instruction can stand on the ports at all: each operand of LOAD_CONFIG fits the
width of its cfg_* port (10_state.md R32). Legality of the configuration (R93) is no matter of syntax:
an illegal one is loaded and reported. -/

namespace Sys2Proof

/-- Each operand fits its port (R32, R58). -/
def AcqConfig.fits (P : Params) (a : AcqConfig) : Bool :=
  decide (a.edgePin < 2 ^ P.wPin) && decide (a.resetPin < 2 ^ P.wPin) &&
  decide (a.holdPin < 2 ^ P.wPin) && decide (a.adcChannel < 2 ^ P.wChan) &&
  decide (a.codec < 2) && decide (a.peakDelay < 2 ^ P.wDelay) &&
  decide (a.resetSettleDelay < 2 ^ P.wDelay) && decide (a.resetHoldDuration < 2 ^ P.wDelay)

/-- Well-formedness of an instruction. -/
def Instr.wellFormed (P : Params) : Instr → Bool
  | .nop => true
  | .loadConfig a => a.fits P
  | .start => true
  | .cancel => true
  | .adcCmdCh0 => true
  | .adcCmdCh1 => true
  | .adcCmdCh0Legacy => true
  | .adcCmdCh1Legacy => true
  | .adcRspDefault _ _ => true
  | .adcRspLegacy _ _ => true

end Sys2Proof
end

