-- ==== Sys2Proof/Decode.lean ====
section
/-! DEFINITION. Decoding the words on the ports and encoding instructions back (30_encoding.md R51 to
R60). The codec rows of the two variants share their words (40_adc_codec.md R68), so decoding a codec
frame takes the selector CFG4, which R66 gives the choice to (log entry 7). -/

namespace Sys2Proof

/-- The host command port (R52): "All four codes are defined". -/
def decodeHostCode (host_cmd : BitVec 2) : HostCode :=
  if host_cmd = 0b00#2 then .nop
  else if host_cmd = 0b01#2 then .loadConfig
  else if host_cmd = 0b10#2 then .start
  else .cancel

/-- The code of a host command (R52). -/
def hostCodeWord : HostCode → BitVec 2
  | .nop => 0b00#2
  | .loadConfig => 0b01#2
  | .start => 0b10#2
  | .cancel => 0b11#2

/-- The operands read from the cfg_* ports (R58). -/
def operandsOfPorts {P : Params} (c : CfgPorts P) : AcqConfig :=
  { edgePin := c.cfg_edge_pin.toNat, resetPin := c.cfg_reset_pin.toNat
    holdPin := c.cfg_hold_pin.toNat, adcChannel := c.cfg_adc_channel.toNat
    codec := c.cfg_codec.toNat, peakDelay := c.cfg_peak_delay.toNat
    resetSettleDelay := c.cfg_reset_settle_delay.toNat
    resetHoldDuration := c.cfg_reset_hold_duration.toNat }

/-- The operands driven on the cfg_* ports, each "taken modulo 2^N" of its port (R8, R58;
log entry 11). -/
def portsOfOperands (P : Params) (a : AcqConfig) : CfgPorts P :=
  { cfg_edge_pin := BitVec.ofNat _ a.edgePin, cfg_reset_pin := BitVec.ofNat _ a.resetPin
    cfg_hold_pin := BitVec.ofNat _ a.holdPin, cfg_adc_channel := BitVec.ofNat _ a.adcChannel
    cfg_codec := BitVec.ofNat _ a.codec, cfg_peak_delay := BitVec.ofNat _ a.peakDelay
    cfg_reset_settle_delay := BitVec.ofNat _ a.resetSettleDelay
    cfg_reset_hold_duration := BitVec.ofNat _ a.resetHoldDuration }

/-- F-HOST with its F-CFG bundle (R52, R58): total, no code is reserved. -/
def decodeHost {P : Params} (host_cmd : BitVec 2) (cfg : CfgPorts P) : Instr :=
  match decodeHostCode host_cmd with
  | .nop => .nop
  | .loadConfig => .loadConfig (operandsOfPorts cfg)
  | .start => .start
  | .cancel => .cancel

/-- F-CMD (R53): the two bytes of the table, every other byte rejected by name (R59 (b)). -/
def decodeCommandByte (v : CodecSel) (b : Byte) : Except DecodeError Instr :=
  if b = 0x68#8 then .ok (if v = 0#1 then .adcCmdCh0 else .adcCmdCh0Legacy)
  else if b = 0x78#8 then .ok (if v = 0#1 then .adcCmdCh1 else .adcCmdCh1Legacy)
  else .error .notACommandByte

/-- F-RX (R55): every pair of bytes is a frame of either variant. -/
def decodeResponseBytes (v : CodecSel) (b0 b1 : Byte) : Instr :=
  if v = 0#1 then .adcRspDefault b0 b1 else .adcRspLegacy b0 b1

/-- The decoder, total on every frame; `v` is the codec selector CFG4 (R66). -/
def decode {P : Params} (v : CodecSel) : Frame P → Except DecodeError Instr
  | .host host_cmd cfg => .ok (decodeHost host_cmd cfg)
  | .command [b] => decodeCommandByte v b
  | .command _ => .error .wrongLength
  | .response [b0, b1] => .ok (decodeResponseBytes v b0 b1)
  | .response _ => .error .wrongLength

/-- The command byte by its bit layout `011C1000`, most significant bit first (R53). -/
def commandLayout (c : BitVec 1) : Byte := 0b011#3 ++ c ++ 0b1000#4

/-- The words of an instruction (R52, R53, R55, R58). A command without operands leaves the cfg_* ports
at 0; no rule reads them then (R32). -/
def encode (P : Params) : Instr → Frame P
  | .nop => .host (hostCodeWord .nop) (CfgPorts.zero P)
  | .loadConfig a => .host (hostCodeWord .loadConfig) (portsOfOperands P a)
  | .start => .host (hostCodeWord .start) (CfgPorts.zero P)
  | .cancel => .host (hostCodeWord .cancel) (CfgPorts.zero P)
  | .adcCmdCh0 => .command [commandLayout 0#1]
  | .adcCmdCh1 => .command [commandLayout 1#1]
  | .adcCmdCh0Legacy => .command [commandLayout 0#1]
  | .adcCmdCh1Legacy => .command [commandLayout 1#1]
  | .adcRspDefault b0 b1 => .response [b0, b1]
  | .adcRspLegacy b0 b1 => .response [b0, b1]

/-- The selector value under which a word is read as this instruction: 0 for the default rows, 1 for
the legacy rows (R66); the host commands do not depend on it, and 0 stands for them. -/
def Instr.codecSel : Instr → CodecSel
  | .nop => 0#1
  | .loadConfig _ => 0#1
  | .start => 0#1
  | .cancel => 0#1
  | .adcCmdCh0 => 0#1
  | .adcCmdCh1 => 0#1
  | .adcCmdCh0Legacy => 1#1
  | .adcCmdCh1Legacy => 1#1
  | .adcRspDefault _ _ => 0#1
  | .adcRspLegacy _ _ => 1#1

/-- A word numbered as the opcode table numbers it, laid out on its ports. A 2-bit F-HOST row counts as
8 bits in whole bytes, its upper bits 0 and its operands 0; an F-RX row is the 16-bit word
(xfer_rx0, xfer_rx1) with xfer_rx0 in bits 15 to 8 (R55; log entry 9). -/
def tableFrame (P : Params) (nbits w : Nat) : Option (Frame P) :=
  if 2 ^ nbits ≤ w then none
  else if nbits = 2 then some (.host (BitVec.ofNat 2 w) (CfgPorts.zero _))
  else if nbits = 8 then
    if w < 4 then some (.host (BitVec.ofNat 2 w) (CfgPorts.zero _))
    else some (.command [BitVec.ofNat 8 w])
  else if nbits = 16 then some (.response [BitVec.ofNat 8 (w / 256), BitVec.ofNat 8 w])
  else none

/-- The instruction the decoder reads from a table word at the widths `P`, with the selector at its reset
value 0: where two rows have the same word, the default row (R68; log entry 7). -/
def decodeTableWordAt (P : Params) (nbits w : Nat) : Option Instr :=
  match tableFrame P nbits w with
  | none => none
  | some f =>
    match decode 0#1 f with
    | .ok i => some i
    | .error _ => none

/-- The same at the default widths. -/
def decodeTableWord (nbits w : Nat) : Option Instr := decodeTableWordAt Config.params nbits w

end Sys2Proof
end

