-- ==== Sys2Proof/Machine/State.lean ====
section
/-! DEFINITION. The machine's state: the register tuple of 10_state.md R12, and around it the inputs
still to come and the outputs just driven. Reset values are the table of R34. -/

namespace Sys2Proof.Machine

/-- The values of `fsm` (R14): "an inductive type of six constructors, in which case the reserved codes do
not exist" (log entry 5). -/
inductive Fsm where
  | idle
  | waitEdge
  | peaking
  | holding
  | settle
  | resetPulse
  deriving DecidableEq, Repr

/-- The 3-bit code of a value of `fsm` (R14). -/
def Fsm.code : Fsm → BitVec 3
  | .idle => 0b000#3
  | .waitEdge => 0b001#3
  | .peaking => 0b010#3
  | .holding => 0b011#3
  | .settle => 0b100#3
  | .resetPulse => 0b101#3

/-- "The complete state of ACQSEQ is the tuple of these registers and nothing else" (R12). -/
structure Regs (P : Params) where
  /-- The state of the acquisition state machine (R14). -/
  fsm : Fsm
  /-- The shared delay counter (R15). -/
  cnt : BitVec P.wDelay
  /-- `edge_in` of the previous tick (R16). -/
  edge_prev : Bool
  /-- 0 in the issue tick of HOLDING, 1 in its later ticks (R17). -/
  xfer_busy : Bool
  /-- A cancellation requested and not yet honoured (R18). -/
  cancel_pending : Bool
  /-- The timestamp of the current cycle (R19). -/
  ts_reg : BitVec P.wTs
  /-- The voltage_code of the current cycle (R20). -/
  code_reg : Code
  /-- The sample pulse (R21). -/
  emit : Bool
  /-- The failure pulse (R22). -/
  fail : Bool
  /-- The cause of the last failure (R22). -/
  fail_cause_reg : BitVec P.wCause
  /-- EDGE_PIN (R24). -/
  CFG0 : BitVec P.wPin
  /-- RESET_PIN (R24). -/
  CFG1 : BitVec P.wPin
  /-- HOLD_PIN (R24). -/
  CFG2 : BitVec P.wPin
  /-- ADC_CHANNEL (R25). -/
  CFG3 : BitVec P.wChan
  /-- CODEC (R26). -/
  CFG4 : CodecSel
  /-- PEAK_DELAY (R27). -/
  CFG5 : BitVec P.wDelay
  /-- RESET_SETTLE_DELAY (R28). -/
  CFG6 : BitVec P.wDelay
  /-- RESET_HOLD_DURATION (R29). -/
  CFG7 : BitVec P.wDelay
  /-- The configuration passed validation (R30). -/
  cfg_valid : Bool
  /-- The ConfigurationError report: bit 0 InvalidChannel, bit 1 ResetHoldZero, bit 2 AliasedPins (R31). -/
  cfg_err : BitVec 3
  deriving DecidableEq, Repr

/-- The reset values, register by register (R34). -/
def Regs.reset (P : Params) : Regs P :=
  { fsm := .idle, cnt := 0#P.wDelay, edge_prev := true, xfer_busy := false, cancel_pending := false
    ts_reg := 0#P.wTs, code_reg := 0#10, emit := false, fail := false
    fail_cause_reg := 0#P.wCause
    CFG0 := 0#P.wPin, CFG1 := 0#P.wPin, CFG2 := 0#P.wPin, CFG3 := 0#P.wChan, CFG4 := 0#1
    CFG5 := 0#P.wDelay, CFG6 := 0#P.wDelay, CFG7 := 0#P.wDelay
    cfg_valid := false, cfg_err := 0b000#3 }

namespace Generic

/-- The machine between two ticks, at any choice of the widths of R7. `regs` is the whole of what the spec
gives the block (R12); the other three fields are the model's own (log entry 2). -/
structure State (P : Params) where
  /-- S_t, the registers at the start of tick t (R9). -/
  regs : Regs P
  /-- I_t, I_{t+1}, …: the input lines of the ticks to come, the next tick's first (R9, R61). Past its
  end every tick samples `Config.freeInputs P tick` (log entry 1). -/
  script : List (Inputs P)
  /-- t (R9). -/
  tick : Nat
  /-- O_{t-1}, what the block drove on its outputs in the tick before (R9); none before the first. -/
  driven : Option (Outputs P)
  deriving DecidableEq, Repr

end Generic

/-- The machine at the widths R7 names as defaults (log entry 3). -/
abbrev State : Type := Generic.State Config.params

/-- No fault exists: "There is no other exception, no trap and no fault: every input pattern in every
state has a defined next state" (R97; log entry 14). -/
inductive Fault where
  deriving DecidableEq, Repr

/-- Why a step has no meaning. Neither reason is ever given by this model's `step` (log entry 14). -/
inductive Refusal where
  /-- An arm of `exec` not modelled yet; safe. No arm raises it. -/
  | notModelled (mnemonic : String)
  /-- `step` raises it when the frame of the tick does not decode; safe. No state has such a frame. -/
  | undecoded (e : DecodeError)
  deriving DecidableEq, Repr

/-- Right after the block reset: the registers of R34, no script line placed, no tick run yet
(log entries 2 and 18). -/
def Generic.State.reset (P : Params) : Generic.State P :=
  { regs := Regs.reset P, script := [], tick := 0, driven := none }

/-- The machine right after reset, at the default widths. -/
def State.reset : State := Generic.State.reset Config.params

end Sys2Proof.Machine
end

