-- ==== Sys2Proof/Machine/AdcCodec.lean ====
section
/-! DEFINITION. The ADC codec (40_adc_codec.md R62 to R69): pure functions, no register of its own. The
two variants are kept apart as R68 demands: "it must not replace either function by the other in the
trusted definitions". -/

namespace Sys2Proof.Machine

/-- The codec's one error (R99). -/
inductive CodecError where
  | invalidChannel
  deriving DecidableEq, Repr

/-- channel_valid (R67). -/
def channelValid (ch : Nat) : Bool := ch == 0 || ch == 1

/-- enc_default (R62). -/
def encDefault (ch : Nat) : Except CodecError Byte :=
  if ch = 0 then .ok 0x68#8
  else if ch = 1 then .ok 0x78#8
  else .error .invalidChannel

/-- enc_legacy (R63): `(0xD | (ch << 1)) << 3` on unbounded naturals, then bits 7 to 0 (R8). -/
def encLegacy (ch : Nat) : Except CodecError Byte :=
  if ch = 0 ∨ ch = 1 then .ok (BitVec.ofNat 8 ((0xD ||| (ch <<< 1)) <<< 3))
  else .error .invalidChannel

/-- dec_default (R64): `(((b0 << 8) | b1) & 0x3FF)[9:0]` on 16 bits. -/
def decDefault (b0 b1 : Byte) : Code :=
  ((((b0.setWidth 16) <<< 8) ||| b1.setWidth 16) &&& 0x3FF#16).setWidth 10

/-- dec_legacy (R65): `(((b0 & 0x3) << 8) | b1)[9:0]` on 16 bits. -/
def decLegacy (b0 b1 : Byte) : Code :=
  (((b0.setWidth 16 &&& 0x3#16) <<< 8) ||| b1.setWidth 16).setWidth 10

/-- encode(ch, v) (R66). -/
def encodeCommand (ch : Nat) (v : CodecSel) : Except CodecError Byte :=
  if v = 0#1 then encDefault ch else encLegacy ch

/-- decode(b0, b1, v) (R66). -/
def decodeResponse (b0 b1 : Byte) (v : CodecSel) : Code :=
  if v = 0#1 then decDefault b0 b1 else decLegacy b0 b1

/-- The byte of an encoder's result; 0x00 where there is none, "this spec's choice for totality" (R82). -/
def commandByte : Except CodecError Byte → Byte
  | .ok b => b
  | .error _ => 0x00#8

end Sys2Proof.Machine
end

