-- ==== Sys2Proof/Machine/Flags.lean ====
section
/-! DEFINITION. The status bits: the validation mask and its verdict (42_host_control.md R93, R92), the
one-tick pulses (10_state.md R21, R22), and the cancellation request (41_sequencer.md R71). -/

namespace Sys2Proof.Machine

variable {P : Params}

/-- validate(e, r, h, ch, d) (R93): `{bit2, bit1, bit0}` = {AliasedPins, ResetHoldZero, InvalidChannel}. -/
def validate (e r h : BitVec P.wPin) (ch : BitVec P.wChan) (d : BitVec P.wDelay) : BitVec 3 :=
  let bit0 := !channelValid ch.toNat
  let bit1 := d == 0#P.wDelay
  let bit2 := e == r || e == h || r == h
  BitVec.ofBool bit2 ++ BitVec.ofBool bit1 ++ BitVec.ofBool bit0

/-- cancel_now(S, I) (R71), `c` being the host command of the tick. -/
def cancelNow (c : HostCode) (S : Regs P) : Bool :=
  decide (S.fsm ≠ .idle) && (S.cancel_pending || decide (c = .cancel))

/-- What every tick does first: `edge_prev <- edge_in`, and the pulses fall (R70, R16, R21, R22). -/
def tickDefaults (I : Inputs P) (S : Regs P) : Regs P :=
  { S with edge_prev := I.edge_in, emit := false, fail := false }

/-- What every tick does last: `cancel_pending <- cn and (S_{t+1}.fsm != IDLE)` (R70, R71, R18). -/
def latchCancel (cn : Bool) (D : Regs P) : Regs P :=
  { D with cancel_pending := cn && decide (D.fsm ≠ .idle) }

end Sys2Proof.Machine
end

