-- ==== Sys2Proof/Machine/Ops.lean ====
section
/-! DEFINITION. The named operations on the registers: the edge detector and the delay counter
(41_sequencer.md R72, R73), the reports of 00_scope.md R10 (the block's way of taking an exception, R97 to
R100), and the way out of a cycle, which is all it has for a return (R105, R106).
`S` is the register state at the start of the tick, `D` the one being written. -/

namespace Sys2Proof.Machine

variable {P : Params}

/-- rising(S, I) (R72). -/
def rising (S : Regs P) (I : Inputs P) : Bool := !S.edge_prev && I.edge_in

/-- enter_hold (R73). -/
def enterHold (D : Regs P) : Regs P := { D with fsm := .holding, xfer_busy := false }

/-- enter_peak (R73): a delay of 0 skips PEAKING. -/
def enterPeak (D : Regs P) : Regs P :=
  if D.CFG5 = 0#P.wDelay then enterHold D else { D with fsm := .peaking, cnt := D.CFG5 }

/-- enter_reset (R73). -/
def enterReset (D : Regs P) : Regs P := { D with fsm := .resetPulse, cnt := D.CFG7 }

/-- enter_settle (R73): a delay of 0 skips SETTLE. -/
def enterSettle (D : Regs P) : Regs P :=
  if D.CFG6 = 0#P.wDelay then enterReset D else { D with fsm := .settle, cnt := D.CFG6 }

/-- `last` of count_tick (R73): `S.cnt <= 1`, which takes in the unreachable 0 (D39). -/
def lastTick (S : Regs P) : Bool := decide (S.cnt.toNat ≤ 1)

/-- The write of count_tick (R73): down by one, stopping at 0. -/
def countTick (D : Regs P) : Regs P :=
  { D with cnt := if D.cnt = 0#P.wDelay then 0#P.wDelay else D.cnt - 1#P.wDelay }

/-- `fsm <- IDLE`, the honouring of a cancellation (R71). -/
def goIdle (D : Regs P) : Regs P := { D with fsm := .idle }

/-- The end of a cycle: back to WAIT_EDGE, or to IDLE when a cancellation is honoured (R79, R81). -/
def endCycle (cn : Bool) (D : Regs P) : Regs P :=
  if cn then goIdle D else { D with fsm := .waitEdge }

/-- raise ConfigurationError(m) when m ≠ 0, and the passing verdict when m = 0 (R10, R92, R98). -/
def reportConfig (m : BitVec 3) (D : Regs P) : Regs P :=
  { D with cfg_err := m, cfg_valid := decide (m = 0b000#3) }

/-- raise AcquisitionFailure(cause) (R10, R79, R100). -/
def raiseAcquisitionFailure (cause : BitVec P.wCause) (D : Regs P) : Regs P :=
  { D with fail := true, fail_cause_reg := cause }

/-- emit Sample(ts_reg, code_reg) (R10, R81). -/
def emitSample (D : Regs P) : Regs P := { D with emit := true }

/-- One tick of the machine: the registers become `R`, the input line is used up, and `o` is what the
outputs showed during the tick (R9). A tick with `rst` does the same (log entry 17). -/
def Generic.State.advance (s : Generic.State P) (o : Outputs P) (R : Regs P) : Generic.State P :=
  { regs := R, script := s.script.tail, tick := s.tick + 1, driven := some o }

end Sys2Proof.Machine
end

