-- ==== Sys2Proof/Machine/Operands.lean ====
section
/-! DEFINITION. Where a tick's operands come from: the input ports of the tick (10_state.md R32), the
host command on host_cmd (30_encoding.md R52), the F-CFG bundle (R58) and the F-RX frame (R55). -/

namespace Sys2Proof.Machine

variable {P : Params}

/-- I_t: the head of the script, or the free line of this tick when the script has ended (log entry 1). -/
def Generic.State.inputs (s : Generic.State P) : Inputs P :=
  match s.script with
  | I :: _ => I
  | [] => Config.freeInputs P s.tick

/-- The host command of a tick (R52). -/
def hostCode (I : Inputs P) : HostCode := decodeHostCode I.host_cmd

/-- The input line with the F-CFG bundle `a` on its cfg_* ports (R58, R8). -/
def withCfg (a : AcqConfig) (I : Inputs P) : Inputs P := { I with cfg := portsOfOperands P a }

/-- The input line in which the environment answers without error with the frame (b0, b1) (R54, R55). -/
def withResponse (b0 b1 : Byte) (I : Inputs P) : Inputs P :=
  { I with xfer_done := true, xfer_err := false, xfer_rx0 := b0, xfer_rx1 := b1 }

end Sys2Proof.Machine
end

