-- ==== Sys2Proof/Machine/HostControl.lean ====
section
/-! DEFINITION. What the host commands do to the registers in IDLE (42_host_control.md R91 to R95,
41_sequencer.md R74). CANCEL has "no code of its own": it counts in `cancelNow` (R95). -/

namespace Sys2Proof.Machine

variable {P : Params}

/-- CFG0 to CFG7 from the cfg_* ports, legal or not (R23, R92). -/
def writeConfig (c : CfgPorts P) (D : Regs P) : Regs P :=
  { D with
    CFG0 := c.cfg_edge_pin, CFG1 := c.cfg_reset_pin, CFG2 := c.cfg_hold_pin
    CFG3 := c.cfg_adc_channel, CFG4 := c.cfg_codec, CFG5 := c.cfg_peak_delay
    CFG6 := c.cfg_reset_settle_delay, CFG7 := c.cfg_reset_hold_duration }

/-- The mask of the values on the ports: "The validation reads the port values of this tick" (R92, R93). -/
def validatePorts (c : CfgPorts P) : BitVec 3 :=
  validate c.cfg_edge_pin c.cfg_reset_pin c.cfg_hold_pin c.cfg_adc_channel c.cfg_reset_hold_duration

/-- LOAD_CONFIG in IDLE (R92). -/
def loadConfigRule (c : CfgPorts P) (D : Regs P) : Regs P :=
  reportConfig (validatePorts c) (writeConfig c D)

/-- START in IDLE (R94). -/
def startRule (D : Regs P) : Regs P := if D.cfg_valid then { D with fsm := .waitEdge } else D

/-- IDLE (R74). -/
def idleRule (c : HostCode) (I : Inputs P) (D : Regs P) : Regs P :=
  match c with
  | .nop => D
  | .loadConfig => loadConfigRule I.cfg D
  | .start => startRule D
  | .cancel => D

end Sys2Proof.Machine
end

