-- ==== Sys2Proof/Machine/Sequencer.lean ====
section
/-! DEFINITION. The acquisition sequencer: the state rules, the next-state function and the output
equations (41_sequencer.md R70, R75 to R82). In a state rule `S` is the register state at the start of
the tick, `D` the same with the defaults of R70 already written, `cn` is cancel_now (R71). -/

namespace Sys2Proof.Machine

variable {P : Params}

/-- WAIT_EDGE (R75): cancellation is tested before the edge. -/
def waitEdgeRule (cn : Bool) (S : Regs P) (I : Inputs P) (D : Regs P) : Regs P :=
  if cn then goIdle D else if rising S I then enterPeak D else D

/-- PEAKING (R76). -/
def peakingRule (cn : Bool) (S D : Regs P) : Regs P :=
  if lastTick S then (if cn then goIdle (countTick D) else enterHold (countTick D))
  else countTick D

/-- HOLDING, the issue tick (R77): `xfer_done` is not sampled here. -/
def issueRule (I : Inputs P) (D : Regs P) : Regs P :=
  { D with ts_reg := I.rtc_in, xfer_busy := true }

/-- HOLDING, a successful completion (R78): the code is written even when `cn` ends the cycle (C12). -/
def successRule (dec : Byte → Byte → Code) (cn : Bool) (I : Inputs P) (D : Regs P) : Regs P :=
  let D1 := { D with code_reg := dec I.xfer_rx0 I.xfer_rx1 }
  if cn then goIdle D1 else enterSettle D1

/-- HOLDING, a failed completion (R79, R105). -/
def failureRule (cn : Bool) (I : Inputs P) (D : Regs P) : Regs P :=
  endCycle cn (raiseAcquisitionFailure I.xfer_cause D)

/-- HOLDING (R70, R77 to R79). -/
def holdingRule (dec : Byte → Byte → Code) (cn : Bool) (S : Regs P) (I : Inputs P) (D : Regs P) :
    Regs P :=
  if S.xfer_busy then
    if I.xfer_done then
      if I.xfer_err then failureRule cn I D else successRule dec cn I D
    else D
  else issueRule I D

/-- SETTLE (R80). -/
def settleRule (cn : Bool) (S D : Regs P) : Regs P :=
  if lastTick S then (if cn then goIdle (countTick D) else enterReset (countTick D))
  else countTick D

/-- RESET_PULSE (R81): the Sample is emitted before a cancellation chooses IDLE. -/
def resetPulseRule (cn : Bool) (S D : Regs P) : Regs P :=
  if lastTick S then endCycle cn (emitSample (countTick D)) else countTick D

/-- "Exactly one state rule chosen by `fsm`" (R70). -/
def stateRule (c : HostCode) (dec : Byte → Byte → Code) (cn : Bool) (S : Regs P) (I : Inputs P)
    (D : Regs P) : Regs P :=
  match S.fsm with
  | .idle => idleRule c I D
  | .waitEdge => waitEdgeRule cn S I D
  | .peaking => peakingRule cn S D
  | .holding => holdingRule dec cn S I D
  | .settle => settleRule cn S D
  | .resetPulse => resetPulseRule cn S D

/-- The next-state function (R70), with the host command `c` and the response decoder `dec` as
arguments: "reset first; then the defaults every tick performs; then exactly one state rule …; then the
cancellation latch". -/
def next (c : HostCode) (dec : Byte → Byte → Code) (S : Regs P) (I : Inputs P) : Regs P :=
  if I.rst then Regs.reset P
  else
    latchCancel (cancelNow c S) (stateRule c dec (cancelNow c S) S I (tickDefaults I S))

/-- The decoder CFG4 selects (R66). -/
def selectedDecoder (S : Regs P) (b0 b1 : Byte) : Code := decodeResponse b0 b1 S.CFG4

/-- The byte xfer_tx0 carries by R82, against R53's "never puts any other value" (log entry 16). -/
def selectedByte (S : Regs P) : Byte :=
  if channelValid S.CFG3.toNat then commandByte (encodeCommand S.CFG3.toNat S.CFG4) else 0x00#8

/-- `fsm in {WAIT_EDGE, PEAKING, HOLDING, SETTLE, RESET_PULSE}` (R82). -/
def isRunning (f : Fsm) : Bool :=
  match f with
  | .idle => false
  | .waitEdge => true
  | .peaking => true
  | .holding => true
  | .settle => true
  | .resetPulse => true

/-- The output equations (R82), with the byte on xfer_tx0 as an argument. -/
def outputsWith (tx0 : Byte) (S : Regs P) : Outputs P :=
  { hold_out := decide (S.fsm = .holding)
    reset_out := decide (S.fsm = .resetPulse)
    xfer_start := decide (S.fsm = .holding) && !S.xfer_busy
    xfer_tx0 := tx0
    xfer_tx1 := 0x00#8
    sample_valid := S.emit
    sample_ts := S.ts_reg
    sample_code := S.code_reg
    fail_valid := S.fail
    fail_cause := S.fail_cause_reg
    cfg_valid_out := S.cfg_valid
    cfg_err_out := S.cfg_err
    status_state := S.fsm.code
    running := isRunning S.fsm
    edge_pin_id := S.CFG0
    reset_pin_id := S.CFG1
    hold_pin_id := S.CFG2 }

/-- O_t = out(S_t) (R9, R82). -/
def outputs (S : Regs P) : Outputs P := outputsWith (selectedByte S) S

end Sys2Proof.Machine
end

