-- ==== Sys2Proof/Machine/AdcCommands.lean ====
section
/-! DEFINITION. The meanings of the six codec rows (40_adc_codec.md R62 to R66). The codec "is evaluated
by the sequencer in two places only": the byte on xfer_tx0, and the decode in the tick an exchange
completes (R69). So a command row is the tick that drives its byte on xfer_tx0, which in the issue tick
starts the exchange (R77); a response row is the tick in which its frame is answered, which in HOLDING
with xfer_busy = 1 completes the exchange (R78) and elsewhere is ignored (R104 (5)). The host command of
that tick is the one on host_cmd (log entry 8). -/

namespace Sys2Proof.Machine

variable {P : Params}

/-- The tick that drives the result of an encoder on xfer_tx0 (R69, R77, R82; log entry 12). -/
def commandTick (r : Except CodecError Byte) (s : Generic.State P) :
    Host.Outcome (Generic.State P) Fault Refusal :=
  .next (s.advance (outputsWith (commandByte r) s.regs)
    (next (hostCode s.inputs) (selectedDecoder s.regs) s.regs s.inputs))

/-- The tick in which the frame (b0, b1) is answered and read by the decoder `dec` (R78; log entry 12). -/
def responseTick (dec : Byte → Byte → Code) (b0 b1 : Byte) (s : Generic.State P) :
    Host.Outcome (Generic.State P) Fault Refusal :=
  .next (s.advance (outputs s.regs)
    (next (hostCode s.inputs) dec s.regs (withResponse b0 b1 s.inputs)))

/-- ADC_CMD_CH0 (R62). -/
def execAdcCmdCh0 (s : Generic.State P) :
    Host.Outcome (Generic.State P) Fault Refusal :=
  commandTick (encDefault 0) s

/-- ADC_CMD_CH1 (R62). -/
def execAdcCmdCh1 (s : Generic.State P) :
    Host.Outcome (Generic.State P) Fault Refusal :=
  commandTick (encDefault 1) s

/-- ADC_CMD_CH0_LEGACY (R63). -/
def execAdcCmdCh0Legacy (s : Generic.State P) : Host.Outcome (Generic.State P) Fault Refusal :=
  commandTick (encLegacy 0) s

/-- ADC_CMD_CH1_LEGACY (R63). -/
def execAdcCmdCh1Legacy (s : Generic.State P) : Host.Outcome (Generic.State P) Fault Refusal :=
  commandTick (encLegacy 1) s

/-- ADC_RSP_DEFAULT (R64). -/
def execAdcRspDefault (b0 b1 : Byte) (s : Generic.State P) :
    Host.Outcome (Generic.State P) Fault Refusal :=
  responseTick decDefault b0 b1 s

/-- ADC_RSP_LEGACY (R65). -/
def execAdcRspLegacy (b0 b1 : Byte) (s : Generic.State P) :
    Host.Outcome (Generic.State P) Fault Refusal :=
  responseTick decLegacy b0 b1 s

end Sys2Proof.Machine
end

