-- ==== Sys2Proof/Machine/HostCommands.lean ====
section
/-! DEFINITION. The meanings of the four host commands (42_host_control.md R91 to R96): the whole tick in
which the command is given, whatever the state the sequencer is in. -/

namespace Sys2Proof.Machine

variable {P : Params}

/-- The tick in which the host gives command `c`, the other ports carrying `I` (R70). -/
def hostTick (c : HostCode) (I : Inputs P) (s : Generic.State P) :
    Host.Outcome (Generic.State P) Fault Refusal :=
  .next (s.advance (outputs s.regs) (next c (selectedDecoder s.regs) s.regs I))

/-- NOP (R91): "the tick runs the state rule … with no command". -/
def execNop (s : Generic.State P) :
    Host.Outcome (Generic.State P) Fault Refusal :=
  hostTick .nop s.inputs s

/-- LOAD_CONFIG (R92) with its operands on the cfg_* ports. -/
def execLoadConfig (a : AcqConfig) (s : Generic.State P) :
    Host.Outcome (Generic.State P) Fault Refusal :=
  hostTick .loadConfig (withCfg a s.inputs) s

/-- START (R94). -/
def execStart (s : Generic.State P) :
    Host.Outcome (Generic.State P) Fault Refusal :=
  hostTick .start s.inputs s

/-- CANCEL (R95). -/
def execCancel (s : Generic.State P) :
    Host.Outcome (Generic.State P) Fault Refusal :=
  hostTick .cancel s.inputs s

end Sys2Proof.Machine
end

