-- ==== Sys2Proof/Machine/Dispatch.lean ====
section
/-! DEFINITION. One arm per row of the opcode table. -/

namespace Sys2Proof.Machine

def exec (i : Instr) (s : State) : Host.Outcome State Fault Refusal :=
  match i with
  -- host commands (42_host_control.md)
  | .nop => Sys2Proof.Machine.execNop s
  | .loadConfig a => Sys2Proof.Machine.execLoadConfig a s
  | .start => Sys2Proof.Machine.execStart s
  | .cancel => Sys2Proof.Machine.execCancel s
  -- ADC command bytes (40_adc_codec.md, encoder)
  | .adcCmdCh0 => Sys2Proof.Machine.execAdcCmdCh0 s
  | .adcCmdCh1 => Sys2Proof.Machine.execAdcCmdCh1 s
  | .adcCmdCh0Legacy => Sys2Proof.Machine.execAdcCmdCh0Legacy s
  | .adcCmdCh1Legacy => Sys2Proof.Machine.execAdcCmdCh1Legacy s
  -- ADC response frames (40_adc_codec.md, decoder)
  | .adcRspDefault b0 b1 => Sys2Proof.Machine.execAdcRspDefault b0 b1 s
  | .adcRspLegacy b0 b1 => Sys2Proof.Machine.execAdcRspLegacy b0 b1 s

end Sys2Proof.Machine
end

