-- ==== Sys2Proof/Machine/Fetch.lean ====
section
/-! DEFINITION. Which word a tick performs, and placing a word where the next tick performs it. The block
fetches nothing (20_memory.md R48): its words stand on its ports (30_encoding.md R51). -/

namespace Sys2Proof.Machine

variable {P : Params}

/-- The issue tick of HOLDING with a channel that has a command byte (R77, R82). -/
def issuesCommand (S : Regs P) : Bool :=
  decide (S.fsm = .holding) && !S.xfer_busy && channelValid S.CFG3.toNat

/-- The completion tick of an exchange that ends without error (R78). -/
def takesResponse (S : Regs P) (I : Inputs P) : Bool :=
  decide (S.fsm = .holding) && S.xfer_busy && I.xfer_done && !I.xfer_err

/-- The word of the tick: the command byte in the issue tick, the response frame in a successful
completion tick, the host command in every other tick (log entry 8). -/
def Generic.State.frame (s : Generic.State P) : Frame P :=
  if issuesCommand s.regs then .command [selectedByte s.regs]
  else if takesResponse s.regs s.inputs then .response [s.inputs.xfer_rx0, s.inputs.xfer_rx1]
  else .host s.inputs.host_cmd s.inputs.cfg

/-- The instruction of the tick, read with the selector CFG4 (R66). -/
def Generic.State.fetch (s : Generic.State P) : Except DecodeError Instr := decode s.regs.CFG4 s.frame

/-- A quiet line (R61): no reset, NOP, `edge_in` keeping its last value, no answer. The values of ports
that are not sampled then are 0 (log entry 10). -/
def quietLine (edge_in : Bool) : Inputs P :=
  { rst := false, edge_in := edge_in, host_cmd := 0b00#2, cfg := CfgPorts.zero _, rtc_in := 0
    xfer_done := false, xfer_err := false, xfer_rx0 := 0, xfer_rx1 := 0, xfer_cause := 0 }

/-- The line the next tick will sample, a quiet one when none is placed, with no reset in it. -/
def Generic.State.nextLine (s : Generic.State P) : Inputs P :=
  match s.script with
  | I :: _ => { I with rst := false }
  | [] => quietLine s.regs.edge_prev

/-- `s` with `I` as the input line of its next tick. -/
def Generic.State.withLine (s : Generic.State P) (I : Inputs P) : Generic.State P :=
  { s with script := I :: s.script.tail }

/-- `s` with a host command and its bundle on the ports of the next tick. -/
def Generic.State.placeHost (s : Generic.State P) (host_cmd : BitVec 2) (cfg : CfgPorts P) :
    Generic.State P :=
  s.withLine { s.nextLine with host_cmd := host_cmd, cfg := cfg }

/-- `s` at the issue tick of HOLDING with channel `ch` and codec `v` configured: there the command byte
of that channel is on xfer_tx0 with xfer_start = 1 (R77). -/
def Generic.State.placeCommand (s : Generic.State P) (ch : BitVec P.wChan) (v : CodecSel) :
    Generic.State P :=
  { s with regs := { s.regs with fsm := .holding, xfer_busy := false, CFG3 := ch, CFG4 := v } }.withLine
    s.nextLine

/-- `s` with an exchange in flight that the next tick answers with (b0, b1) under codec `v` (R78). -/
def Generic.State.placeResponse (s : Generic.State P) (b0 b1 : Byte) (v : CodecSel) : Generic.State P :=
  { s with regs := { s.regs with fsm := .holding, xfer_busy := true, CFG4 := v } }.withLine
    (withResponse b0 b1 s.nextLine)

/-- `s` with the word of `i` where the next tick performs it. -/
def Generic.State.placeInstr (s : Generic.State P) : Instr → Generic.State P
  | .nop => s.placeHost 0b00#2 (CfgPorts.zero _)
  | .loadConfig a => s.placeHost 0b01#2 (portsOfOperands _ a)
  | .start => s.placeHost 0b10#2 (CfgPorts.zero _)
  | .cancel => s.placeHost 0b11#2 (CfgPorts.zero _)
  | .adcCmdCh0 => s.placeCommand 0 0#1
  | .adcCmdCh1 => s.placeCommand 1 0#1
  | .adcCmdCh0Legacy => s.placeCommand 0 1#1
  | .adcCmdCh1Legacy => s.placeCommand 1 1#1
  | .adcRspDefault b0 b1 => s.placeResponse b0 b1 0#1
  | .adcRspLegacy b0 b1 => s.placeResponse b0 b1 1#1

end Sys2Proof.Machine
end

