-- ==== Sys2Proof/Machine/Step.lean ====
section
/-! DEFINITION. One tick of the block: the word of the tick is read and performed (00_scope.md R9,
41_sequencer.md R70). -/

namespace Sys2Proof.Machine

/-- One tick. -/
def step (s : State) : Host.Outcome State Fault Refusal :=
  match s.fetch with
  | .ok i => exec i s
  | .error e => .refused (.undecoded e)

/-- `s` with the table word `w` placed so that the next tick performs the instruction
`decodeTableWordAt` reads from it; `s` itself where it reads none (log entry 10). -/
def Generic.State.placeWord {P : Params} (s : Generic.State P) (nbits w : Nat) : Generic.State P :=
  match decodeTableWordAt P nbits w with
  | some i => s.placeInstr i
  | none => s

/-- The same at the default widths. -/
def State.withFetchWord (s : State) (nbits w : Nat) : State := Generic.State.placeWord s nbits w

end Sys2Proof.Machine
end

