-- ==== Sys2Proof/Machine/Generic.lean ====
section
/-! DEFINITION. The machine as a function of the parameters of 00_scope.md R7, "each a named parameter the
model takes as an argument": `exec`, `step` and the core at any widths, over the meanings `exec` calls.
At the default widths they are `exec`, `step` and `core` themselves (Laws/Step.lean). -/

namespace Sys2Proof.Machine.Generic

variable {P : Params}

/-- `Machine.exec` at the widths `P`. -/
def exec (i : Instr) (s : State P) : Host.Outcome (State P) Fault Refusal :=
  match i with
  | .nop => execNop s
  | .loadConfig a => execLoadConfig a s
  | .start => execStart s
  | .cancel => execCancel s
  | .adcCmdCh0 => execAdcCmdCh0 s
  | .adcCmdCh1 => execAdcCmdCh1 s
  | .adcCmdCh0Legacy => execAdcCmdCh0Legacy s
  | .adcCmdCh1Legacy => execAdcCmdCh1Legacy s
  | .adcRspDefault b0 b1 => execAdcRspDefault b0 b1 s
  | .adcRspLegacy b0 b1 => execAdcRspLegacy b0 b1 s

/-- One tick at the widths `P` (R9, R70). -/
def step (s : State P) : Host.Outcome (State P) Fault Refusal :=
  match s.fetch with
  | .ok i => exec i s
  | .error e => .refused (.undecoded e)

/-- The machine with the widths as its argument (R7). -/
def machine (P : Params) : Host.Core :=
  { State := State P, Fault := Fault, Refusal := Refusal, step := step, reset := State.reset P }

end Sys2Proof.Machine.Generic
end

