-- ==== Sys2Proof/Machine/Script.lean ====
section
/-! DEFINITION. The tick script of 30_encoding.md R61: one line per tick, and the pseudo-commands with
their expansions. It is notation for `State.script` (D34); no rule of the block reads it. -/

namespace Sys2Proof.Machine

/-- `done ok (rx0, rx1)` and `done err cause` (R61). -/
inductive Done where
  | ok (rx0 rx1 : Byte)
  | err (cause : Nat)
  deriving DecidableEq, Repr

/-- A line of a tick script (R61); `rst` as 95_test_vectors.md writes it. -/
structure ScriptLine where
  cmd : HostCode
  operands : Option AcqConfig
  rst : Bool
  edge : Option Bool
  rtc : Option Nat
  done : Option Done
  deriving DecidableEq, Repr

/-- A line that gives only a host command. -/
def plainLine (c : HostCode) : ScriptLine :=
  { cmd := c, operands := none, rst := false, edge := none, rtc := none, done := none }

/-- `LOAD_CONFIG {…}` (R61). -/
def loadLine (a : AcqConfig) : ScriptLine := { plainLine .loadConfig with operands := some a }

/-- The input line of a script line; `edge` and `rtc` are the values in force (R61). Ports the line does
not drive carry 0 (log entry 15). -/
def ScriptLine.inputs (P : Params) (edge : Bool) (rtc : Nat) (l : ScriptLine) : Inputs P :=
  { rst := l.rst, edge_in := edge, host_cmd := hostCodeWord l.cmd
    cfg := match l.operands with
      | some a => portsOfOperands P a
      | none => CfgPorts.zero P
    rtc_in := BitVec.ofNat _ rtc
    xfer_done := l.done.isSome
    xfer_err := match l.done with
      | some (.err _) => true
      | _ => false
    xfer_rx0 := match l.done with
      | some (.ok rx0 _) => rx0
      | _ => 0
    xfer_rx1 := match l.done with
      | some (.ok _ rx1) => rx1
      | _ => 0
    xfer_cause := match l.done with
      | some (.err cause) => BitVec.ofNat _ cause
      | _ => 0 }

/-- The input lines of a script: `edge` and `rtc` "keep their last value when omitted" (R61). -/
def scriptInputs (P : Params) : Bool → Nat → List ScriptLine → List (Inputs P)
  | _, _, [] => []
  | edge, rtc, l :: ls =>
    l.inputs P (l.edge.getD edge) (l.rtc.getD rtc) ::
      scriptInputs P (l.edge.getD edge) (l.rtc.getD rtc) ls

/-- `WAIT n` = n ticks of NOP (R61). -/
def scriptWait (n : Nat) : List ScriptLine := List.replicate n (plainLine .nop)

/-- `CONFIGURE {…}` = LOAD_CONFIG in one tick, then one NOP tick (R61). -/
def scriptConfigure (a : AcqConfig) : List ScriptLine := [loadLine a, plainLine .nop]

/-- `CONFIGURE_AND_START {…}` = LOAD_CONFIG, then START in the next tick (R61). -/
def scriptConfigureAndStart (a : AcqConfig) : List ScriptLine := [loadLine a, plainLine .start]

/-- `STOP` = CANCEL followed by NOP ticks "until `running` = 0" (R61); `n` is how many that takes. -/
def scriptStop (n : Nat) : List ScriptLine := plainLine .cancel :: scriptWait n

end Sys2Proof.Machine
end

