-- ==== Sys2Proof/Safety.lean ====
section
/-! DEFINITION. What counts as a safe run, in the terms the statements use: the invariant of 10_state.md
R35, the safety of the two output lines, the duties of the environment (60_exceptions.md R110,
70_reset_and_hazards.md R120), and runs of several ticks. -/

namespace Sys2Proof.Machine

variable {P : Params}

/-- The configuration registers hold a legal configuration (R35 (a), R23). -/
abbrev Regs.configLegal (S : Regs P) : Prop :=
  (S.CFG3.toNat = 0 ∨ S.CFG3.toNat = 1) ∧ 1 ≤ S.CFG7.toNat ∧
    S.CFG0 ≠ S.CFG1 ∧ S.CFG0 ≠ S.CFG2 ∧ S.CFG1 ≠ S.CFG2

/-- What R35 says of every state reachable from reset, with what an induction needs beside it. Clause
(e) of R35 is here only from left to right; see log entry 6. -/
structure Regs.Inv (S : Regs P) : Prop where
  /-- R35 (a). -/
  running : S.fsm ≠ .idle → S.cfg_valid = true
  /-- R35 (a), R30: a configuration that passed validation is legal. -/
  legal : S.cfg_valid = true → S.configLegal
  /-- R35 (e) from left to right. -/
  noError : S.cfg_valid = true → S.cfg_err = 0b000#3
  /-- R35 (c), R18. -/
  noRequest : S.fsm = .idle → S.cancel_pending = false
  /-- R35 (d). -/
  peaking : S.fsm = .peaking → 1 ≤ S.cnt.toNat ∧ S.cnt.toNat ≤ S.CFG5.toNat
  /-- R35 (d). -/
  settle : S.fsm = .settle → 1 ≤ S.cnt.toNat ∧ S.cnt.toNat ≤ S.CFG6.toNat
  /-- R35 (d). -/
  resetPulse : S.fsm = .resetPulse → 1 ≤ S.cnt.toNat ∧ S.cnt.toNat ≤ S.CFG7.toNat
  /-- R15: the counter is 0 outside the delay states. -/
  counter : S.fsm = .idle ∨ S.fsm = .waitEdge ∨ S.fsm = .holding → S.cnt.toNat = 0
  /-- R88: "at most one Sample or one failure report, never both". -/
  oneReport : ¬(S.emit = true ∧ S.fail = true)

/-- The two lines are never high together (R35 (b)), and both are low in IDLE and WAIT_EDGE (R89). -/
def linesSafe (o : Outputs P) : Prop :=
  ¬(o.hold_out = true ∧ o.reset_out = true) ∧
    (o.status_state = Fsm.idle.code ∨ o.status_state = Fsm.waitEdge.code →
      o.hold_out = false ∧ o.reset_out = false)

/-- A tick in which the Bus Interface keeps its duty: an answer only while an exchange is in flight, an
error only with an answer (R110, R120). Nothing in the model assumes it (log entry 13). -/
def dutyKept (S : Regs P) (I : Inputs P) : Prop :=
  (I.xfer_done = true → S.fsm = .holding ∧ S.xfer_busy = true) ∧
    (I.xfer_err = true → I.xfer_done = true)

/-- A tick without a block reset and without a CANCEL command. -/
def calmLine (I : Inputs P) : Prop := I.rst = false ∧ hostCode I ≠ .cancel

/-- `n` ticks. -/
def runTicks (n : Nat) (s : State) : Host.Outcome State Fault Refusal := Host.Core.run core n s

end Sys2Proof.Machine
end

