-- ==== Sys2Proof/Certificates/Slice0/Reference.lean ====
section
/-! DEFINITION. The block as 10_state.md describes it, register by register: each register's next value
as one expression of S_t and I_t, from the rule of that register (R14 to R23, R30, R31) and the
conditions 41_sequencer.md gives it. The statements compare the model, which is written state by state,
with this. -/

namespace Sys2Proof.Reference

open Sys2Proof.Machine

variable {P : Params}

/-- cancel_now (R71). -/
def cancelNow (S : Regs P) (I : Inputs P) : Bool :=
  decide (S.fsm ≠ .idle) && (S.cancel_pending || decide (I.host_cmd = 0b11#2))

/-- The three delay states (R73). -/
def inDelay (S : Regs P) : Bool :=
  decide (S.fsm = .peaking) || decide (S.fsm = .settle) || decide (S.fsm = .resetPulse)

/-- The last tick of a delay (R73). -/
def last (S : Regs P) : Bool := decide (S.cnt.toNat ≤ 1)

/-- The issue tick (R77). -/
def issue (S : Regs P) : Bool := decide (S.fsm = .holding) && !S.xfer_busy

/-- The completion tick (R78, R79). -/
def complete (S : Regs P) (I : Inputs P) : Bool :=
  decide (S.fsm = .holding) && S.xfer_busy && I.xfer_done

/-- A completion without error (R78). -/
def success (S : Regs P) (I : Inputs P) : Bool := complete S I && !I.xfer_err

/-- A completion with an error (R79). -/
def failure (S : Regs P) (I : Inputs P) : Bool := complete S I && I.xfer_err

/-- An honouring point (R71). -/
def honouringPoint (S : Regs P) (I : Inputs P) : Bool :=
  decide (S.fsm = .waitEdge) || (inDelay S && last S) || complete S I

/-- A cancellation takes effect in this tick (R71). -/
def honoured (S : Regs P) (I : Inputs P) : Bool := cancelNow S I && honouringPoint S I

/-- An edge is acted on in this tick (R72, R75). -/
def edgeTaken (S : Regs P) (I : Inputs P) : Bool :=
  decide (S.fsm = .waitEdge) && !cancelNow S I && (!S.edge_prev && I.edge_in)

/-- PEAKING is entered (R73, R75). -/
def startPeak (S : Regs P) (I : Inputs P) : Bool := edgeTaken S I && decide (S.CFG5.toNat ≠ 0)

/-- HOLDING is entered (R73, R75, R76). -/
def startHold (S : Regs P) (I : Inputs P) : Bool :=
  (edgeTaken S I && decide (S.CFG5.toNat = 0)) ||
    (decide (S.fsm = .peaking) && last S && !cancelNow S I)

/-- SETTLE is entered (R73, R78). -/
def startSettle (S : Regs P) (I : Inputs P) : Bool :=
  success S I && !cancelNow S I && decide (S.CFG6.toNat ≠ 0)

/-- RESET_PULSE is entered (R73, R78, R80). -/
def startReset (S : Regs P) (I : Inputs P) : Bool :=
  (success S I && !cancelNow S I && decide (S.CFG6.toNat = 0)) ||
    (decide (S.fsm = .settle) && last S && !cancelNow S I)

/-- The reset pulse ends (R81). -/
def endPulse (S : Regs P) : Bool := decide (S.fsm = .resetPulse) && last S

/-- LOAD_CONFIG is accepted (R92). -/
def load (S : Regs P) (I : Inputs P) : Bool := decide (S.fsm = .idle) && decide (I.host_cmd = 0b01#2)

/-- START is accepted (R94). -/
def start (S : Regs P) (I : Inputs P) : Bool :=
  decide (S.fsm = .idle) && decide (I.host_cmd = 0b10#2) && S.cfg_valid

/-- validate on naturals (R93): 4, 2 and 1 for AliasedPins, ResetHoldZero and InvalidChannel. -/
def mask (e r h ch d : Nat) : BitVec 3 :=
  BitVec.ofNat 3 ((if e = r ∨ e = h ∨ r = h then 4 else 0) + (if d = 0 then 2 else 0) +
    (if ch = 0 ∨ ch = 1 then 0 else 1))

/-- The mask of the values on the cfg_* ports (R92). -/
def portMask (c : CfgPorts P) : BitVec 3 :=
  mask c.cfg_edge_pin.toNat c.cfg_reset_pin.toNat c.cfg_hold_pin.toNat c.cfg_adc_channel.toNat
    c.cfg_reset_hold_duration.toNat

/-- The voltage_code of a frame (R55, R56): `{byte0[1:0], byte1[7:0]}`. -/
def codeOf (b0 b1 : Byte) : Code := b0.extractLsb' 0 2 ++ b1

/-- A transition of `fsm` takes place in this tick (R14, R71, R74 to R81). -/
def moves (S : Regs P) (I : Inputs P) : Bool :=
  honoured S I || start S I || failure S I || endPulse S || startPeak S I || startHold S I ||
    startSettle S I || startReset S I

/-- The next `fsm` (R14, R74 to R81). -/
def nextFsm (S : Regs P) (I : Inputs P) : Fsm :=
  if honoured S I then .idle
  else if start S I || failure S I || endPulse S then .waitEdge
  else if startPeak S I then .peaking
  else if startHold S I then .holding
  else if startSettle S I then .settle
  else if startReset S I then .resetPulse
  else S.fsm

/-- The states the transition rules lead to from each state, itself included (R74 to R81). -/
def successors : Fsm → List Fsm
  | .idle => [.idle, .waitEdge]
  | .waitEdge => [.waitEdge, .idle, .peaking, .holding]
  | .peaking => [.peaking, .idle, .holding]
  | .holding => [.holding, .idle, .waitEdge, .settle, .resetPulse]
  | .settle => [.settle, .idle, .resetPulse]
  | .resetPulse => [.resetPulse, .idle, .waitEdge]

/-- Every register's next value (R15 to R23, R30, R31), and the reset values (R34, R114). -/
def nextRegs (S : Regs P) (I : Inputs P) : Regs P :=
  if I.rst then Regs.reset P
  else
    { fsm := nextFsm S I
      cnt :=
        if startPeak S I then S.CFG5
        else if startSettle S I then S.CFG6
        else if startReset S I then S.CFG7
        else if inDelay S then BitVec.ofNat _ (S.cnt.toNat - 1)
        else S.cnt
      edge_prev := I.edge_in
      xfer_busy := if startHold S I then false else if issue S then true else S.xfer_busy
      cancel_pending := cancelNow S I && decide (nextFsm S I ≠ .idle)
      ts_reg := if issue S then I.rtc_in else S.ts_reg
      code_reg := if success S I then codeOf I.xfer_rx0 I.xfer_rx1 else S.code_reg
      emit := endPulse S
      fail := failure S I
      fail_cause_reg := if failure S I then I.xfer_cause else S.fail_cause_reg
      CFG0 := if load S I then I.cfg.cfg_edge_pin else S.CFG0
      CFG1 := if load S I then I.cfg.cfg_reset_pin else S.CFG1
      CFG2 := if load S I then I.cfg.cfg_hold_pin else S.CFG2
      CFG3 := if load S I then I.cfg.cfg_adc_channel else S.CFG3
      CFG4 := if load S I then I.cfg.cfg_codec else S.CFG4
      CFG5 := if load S I then I.cfg.cfg_peak_delay else S.CFG5
      CFG6 := if load S I then I.cfg.cfg_reset_settle_delay else S.CFG6
      CFG7 := if load S I then I.cfg.cfg_reset_hold_duration else S.CFG7
      cfg_valid := if load S I then decide (portMask I.cfg = 0b000#3) else S.cfg_valid
      cfg_err := if load S I then portMask I.cfg else S.cfg_err }

/-- The state after a tick of `s` that leaves the registers `R`: the line is used up and the outputs
shown during the tick are those of S_t (R9). -/
def after (s : Generic.State P) (R : Regs P) : Generic.State P :=
  { regs := R, script := s.script.tail, tick := s.tick + 1, driven := some (outputs s.regs) }

/-- What every tick without `rst` writes first (R70). -/
def base (s : Generic.State P) : Regs P :=
  { s.regs with edge_prev := s.inputs.edge_in, emit := false, fail := false }

/-- The instruction a frame on the ports of `s` can be: the host command in every tick, the byte on
xfer_tx0 in every tick with a valid channel (R69, R82), the frame on the receive ports whenever it is
answered without error (R54). -/
def presents (s : Generic.State P) (f : Frame P) : Prop :=
  f = .host s.inputs.host_cmd s.inputs.cfg ∨
    (channelValid s.regs.CFG3.toNat = true ∧ f = .command [(outputs s.regs).xfer_tx0]) ∨
    (s.inputs.xfer_done = true ∧ s.inputs.xfer_err = false ∧
      f = .response [s.inputs.xfer_rx0, s.inputs.xfer_rx1])

/-- Two input lines that agree on every port R32 says is sampled in the tick of `S`. -/
def sameSampled (S : Regs P) (I J : Inputs P) : Prop :=
  I.rst = J.rst ∧ I.edge_in = J.edge_in ∧ I.host_cmd = J.host_cmd ∧
    (load S I = true → I.cfg = J.cfg) ∧
    (issue S = true → I.rtc_in = J.rtc_in) ∧
    (S.fsm = .holding ∧ S.xfer_busy = true → I.xfer_done = J.xfer_done) ∧
    (complete S I = true → I.xfer_err = J.xfer_err) ∧
    (success S I = true → I.xfer_rx0 = J.xfer_rx0 ∧ I.xfer_rx1 = J.xfer_rx1) ∧
    (failure S I = true → I.xfer_cause = J.xfer_cause)

/-- Two states that differ in nothing but the codec selector: in CFG4, and in what cfg_codec will carry. -/
def sameButCodec (s s' : Generic.State P) : Prop :=
  s'.regs = { s.regs with CFG4 := s'.regs.CFG4 } ∧
    List.Forall₂
      (fun I I' : Inputs P =>
        I' = { I with cfg := { I.cfg with cfg_codec := I'.cfg.cfg_codec } })
      s.script s'.script ∧
    s'.tick = s.tick ∧ s'.driven = s.driven

/-- A trigger line that never rises, `e` being its level in the tick before. -/
def neverRises : Bool → List (Inputs P) → Prop
  | _, [] => True
  | e, I :: l => (e = true ∨ I.edge_in = false) ∧ neverRises I.edge_in l

/-- The eight configuration registers and their verdict are the same. -/
def sameConfig (S T : Regs P) : Prop :=
  T.CFG0 = S.CFG0 ∧ T.CFG1 = S.CFG1 ∧ T.CFG2 = S.CFG2 ∧ T.CFG3 = S.CFG3 ∧ T.CFG4 = S.CFG4 ∧
    T.CFG5 = S.CFG5 ∧ T.CFG6 = S.CFG6 ∧ T.CFG7 = S.CFG7 ∧ T.cfg_valid = S.cfg_valid ∧
    T.cfg_err = S.cfg_err

/-- The line of an instruction's tick with its command and operands on the ports (R52, R58, R55). -/
def lineOf (i : Instr) (s : Generic.State P) : Inputs P :=
  match i with
  | .nop => { s.inputs with host_cmd := 0b00#2 }
  | .loadConfig a => { s.inputs with host_cmd := 0b01#2, cfg := portsOfOperands _ a }
  | .start => { s.inputs with host_cmd := 0b10#2 }
  | .cancel => { s.inputs with host_cmd := 0b11#2 }
  | .adcCmdCh0 => s.inputs
  | .adcCmdCh1 => s.inputs
  | .adcCmdCh0Legacy => s.inputs
  | .adcCmdCh1Legacy => s.inputs
  | .adcRspDefault b0 b1 =>
    { s.inputs with xfer_done := true, xfer_err := false, xfer_rx0 := b0, xfer_rx1 := b1 }
  | .adcRspLegacy b0 b1 =>
    { s.inputs with xfer_done := true, xfer_err := false, xfer_rx0 := b0, xfer_rx1 := b1 }

/-- The byte on xfer_tx0 in an instruction's tick: a command row's own (R53), else that of R82. -/
def byteOf (i : Instr) (s : Generic.State P) : Byte :=
  match i with
  | .nop => (outputs s.regs).xfer_tx0
  | .loadConfig _ => (outputs s.regs).xfer_tx0
  | .start => (outputs s.regs).xfer_tx0
  | .cancel => (outputs s.regs).xfer_tx0
  | .adcCmdCh0 => 0x68#8
  | .adcCmdCh1 => 0x78#8
  | .adcCmdCh0Legacy => 0x68#8
  | .adcCmdCh1Legacy => 0x78#8
  | .adcRspDefault _ _ => (outputs s.regs).xfer_tx0
  | .adcRspLegacy _ _ => (outputs s.regs).xfer_tx0

end Sys2Proof.Reference
end

