-- ==== Sys2Proof/Certificates/Slice0/Obligations.lean ====
section
/-! DEFINITION. The statements for the provers. `Reference.after s R` is the state a tick of `s` leaves
with the registers `R`, `Reference.base s` the registers with what every tick writes (R70). Equations
`step s = .next (Reference.after s { Reference.base s with … })` say the whole frame: what the record
update does not name keeps its value. -/

open Sys2Proof Sys2Proof.Machine

/-! ## Encodings (30_encoding.md) -/

/-- Encoding a well-formed instruction and decoding it again gives it back, at every width. That the codec
rows need the selector is the model's reading (log entry 7). -/
def Obligations.DecodeOfEncodeGivesInstruction : Prop :=
  ∀ (P : Params) (i : Instr), i.wellFormed P = true → decode i.codecSel (encode P i) = .ok i

/-- Encoding what a frame decodes to gives the frame back, for a codec frame and a LOAD_CONFIG frame, and
for NOP, START and CANCEL the frame with every unread cfg_* port 0; every decoded instruction is well
formed. -/
def Obligations.EncodeOfDecodedFrameGivesFrame : Prop :=
  ∀ (P : Params) (v : CodecSel) (f : Frame P) (i : Instr), decode v f = .ok i →
    i.wellFormed P = true ∧
      ((∀ w cfg, f = .host w cfg → w = 0b01#2) → encode P i = f) ∧
      (∀ w cfg, f = .host w cfg → w ≠ 0b01#2 → encode P i = .host w (CfgPorts.zero P))

/-- The words of the opcode table's rows, written out from its encodings. The numbering of the response
word and the default row for a shared word are the model's choices (log entries 9, 7). -/
def Obligations.TableWordsDecode : Prop :=
  decodeTableWord 2 0b00 = some .nop ∧
  decodeTableWord 2 0b01 = some (.loadConfig (operandsOfPorts (CfgPorts.zero Config.params))) ∧
  decodeTableWord 2 0b10 = some .start ∧
  decodeTableWord 2 0b11 = some .cancel ∧
  decodeTableWord 8 0b01101000 = some .adcCmdCh0 ∧
  decodeTableWord 8 0b01111000 = some .adcCmdCh1 ∧
  decodeTableWord 16 0b0000001000110100 = some (.adcRspDefault 0x02#8 0x34#8)

/-- F-CMD (R53, R59 (b)): the pattern `011C1000` and no other byte decodes, C being the channel. That the
selector `v` chooses between the default and the legacy row of that byte is the model's reading (log entry
7). -/
def Obligations.CommandByteIsPattern : Prop :=
  ∀ (P : Params) (v : CodecSel) (b : Byte),
    (b.extractLsb' 5 3 = 0b011#3 ∧ b.extractLsb' 0 4 = 0b1000#4 →
      decode (P := P) v (.command [b]) =
        .ok (if b.getLsbD 4 = false then (if v = 0#1 then .adcCmdCh0 else .adcCmdCh0Legacy)
          else (if v = 0#1 then .adcCmdCh1 else .adcCmdCh1Legacy))) ∧
    (¬(b.extractLsb' 5 3 = 0b011#3 ∧ b.extractLsb' 0 4 = 0b1000#4) →
      decode (P := P) v (.command [b]) = .error .notACommandByte)

/-! ## The codec (40_adc_codec.md) -/

/-- R62. -/
def Obligations.DefaultEncoderValues : Prop :=
  encDefault 0 = .ok 0b01101000#8 ∧ encDefault 1 = .ok 0b01111000#8 ∧
    (∀ ch, ch ≠ 0 → ch ≠ 1 → encDefault ch = .error .invalidChannel) ∧
    (∀ (P : Params) (S : Regs P), S.Inv → S.fsm ≠ .idle → ∃ b, encDefault S.CFG3.toNat = .ok b)

/-- R63. -/
def Obligations.LegacyEncoderFormula : Prop :=
  (∀ ch, ch = 0 ∨ ch = 1 →
      (0xD ||| ch <<< 1) <<< 3 < 2 ^ 8 ∧
        ∃ b, encLegacy ch = .ok b ∧ b.toNat = (0xD ||| ch <<< 1) <<< 3) ∧
    (∀ ch, ch ≠ 0 → ch ≠ 1 → encLegacy ch = .error .invalidChannel) ∧
    encLegacy 0 = .ok 0b01101000#8 ∧ encLegacy 1 = .ok 0b01111000#8

/-- R64. -/
def Obligations.DefaultDecoderFormula : Prop :=
  ∀ b0 b1 : Byte,
    (decDefault b0 b1).toNat = ((b0.toNat <<< 8) ||| b1.toNat) &&& 0x3FF ∧
      (decDefault b0 b1).toNat ≤ 1023

/-- R65. -/
def Obligations.LegacyDecoderFormula : Prop :=
  ∀ b0 b1 : Byte,
    (decLegacy b0 b1).toNat = ((b0.toNat &&& 0x3) <<< 8) ||| b1.toNat ∧
      (decLegacy b0 b1).toNat ≤ 1023

/-- R55: byte0[7:2] are discarded, byte0[1:0] are code[9:8], byte1 is code[7:0]. -/
def Obligations.ResponseFrameLayout : Prop :=
  ∀ (v : CodecSel) (b0 b1 : Byte),
    (decodeResponse b0 b1 v).extractLsb' 8 2 = b0.extractLsb' 0 2 ∧
    (decodeResponse b0 b1 v).extractLsb' 0 8 = b1 ∧
    ∀ c0 : Byte, c0.extractLsb' 0 2 = b0.extractLsb' 0 2 →
      decodeResponse c0 b1 v = decodeResponse b0 b1 v

/-- R66, with R53 for the byte: the variant is selected by CFG4, the encoder succeeds while running, and
xfer_tx0 then is its byte, `011C1000` for channel C. -/
def Obligations.SelectedCodecAndTransmitByte : Prop :=
  (∀ ch, encodeCommand ch 0#1 = encDefault ch ∧ encodeCommand ch 1#1 = encLegacy ch) ∧
    (∀ b0 b1, decodeResponse b0 b1 0#1 = decDefault b0 b1 ∧
      decodeResponse b0 b1 1#1 = decLegacy b0 b1) ∧
    (∀ (P : Params) (S : Regs P), S.Inv → S.fsm ≠ .idle →
      encodeCommand S.CFG3.toNat S.CFG4 = .ok (outputs S).xfer_tx0 ∧
        (outputs S).xfer_tx0 = 0b011#3 ++ BitVec.ofNat 1 S.CFG3.toNat ++ 0b1000#4)

/-- R67: channel_valid, the success of either encoder, and bit 0 of the mask LOAD_CONFIG writes. -/
def Obligations.ChannelValidIsEncoderSuccess : Prop :=
  (∀ ch, (channelValid ch = true ↔ ch = 0 ∨ ch = 1) ∧
      (channelValid ch = true ↔ ∃ b, encDefault ch = .ok b) ∧
      (channelValid ch = true ↔ ∃ b, encLegacy ch = .ok b)) ∧
    (∀ (P : Params) (e r h : BitVec P.wPin) (ch : BitVec P.wChan) (d : BitVec P.wDelay),
      (validate e r h ch d).getLsbD 0 = !channelValid ch.toNat) ∧
    ∀ (s : State) (a : AcqConfig), s.inputs.rst = false → s.regs.fsm = .idle →
      ∃ t, exec (.loadConfig a) s = .next t ∧
        t.regs.cfg_err.getLsbD 0 = !channelValid t.regs.CFG3.toNat

/-- R68: the two variants compute the same functions, and CFG4 has no observable effect on any output:
two states that differ only in the selector run side by side for any number of ticks, showing the same
outputs in every one. -/
def Obligations.CodecSelectorIsUnobservable : Prop :=
  (encDefault 0 = .ok 0x68#8 ∧ encLegacy 0 = .ok 0x68#8) ∧
    (encDefault 1 = .ok 0x78#8 ∧ encLegacy 1 = .ok 0x78#8) ∧
    (∀ b0 b1, decDefault b0 b1 = decLegacy b0 b1) ∧
    ∀ (n : Nat) (s s' : State), Reference.sameButCodec s s' →
      ∃ t t', runTicks n s = .next t ∧ runTicks n s' = .next t' ∧
        Reference.sameButCodec t t' ∧ outputs t'.regs = outputs t.regs

/-! ## Host commands (42_host_control.md) -/

/-- R93, at every width. -/
def Obligations.ValidateChecksThreeConditions : Prop :=
  ∀ (P : Params) (e r h : BitVec P.wPin) (ch : BitVec P.wChan) (d : BitVec P.wDelay),
    ((validate e r h ch d).getLsbD 0 = true ↔ ¬(ch.toNat = 0 ∨ ch.toNat = 1)) ∧
    ((validate e r h ch d).getLsbD 1 = true ↔ d.toNat = 0) ∧
    ((validate e r h ch d).getLsbD 2 = true ↔ e = r ∨ e = h ∨ r = h)

/-- R91: NOP completes in every state; the tick runs the state rule with no command. -/
def Obligations.NopRunsTheStateRule : Prop :=
  ∀ s : State,
    exec .nop s =
        .next (Reference.after s (Reference.nextRegs s.regs { s.inputs with host_cmd := 0b00#2 })) ∧
    (s.inputs.rst = false → s.regs.fsm = .idle →
      exec .nop s = .next (Reference.after s { Reference.base s with cancel_pending := false })) ∧
    (s.inputs.rst = false → s.regs.fsm = .waitEdge → s.regs.cancel_pending = true →
      exec .nop s = .next
        (Reference.after s { Reference.base s with fsm := .idle, cancel_pending := false }))

/-- R92: LOAD_CONFIG in IDLE writes the eight registers, legal or not, and the verdict on the values it
writes; outside IDLE it is a NOP. -/
def Obligations.LoadConfigWritesAndValidates : Prop :=
  ∀ (s : State) (a : AcqConfig), s.inputs.rst = false → a.fits Config.params = true →
    (s.regs.fsm = .idle →
      exec (.loadConfig a) s = .next (Reference.after s
        { Reference.base s with
          CFG0 := BitVec.ofNat _ a.edgePin
          CFG1 := BitVec.ofNat _ a.resetPin
          CFG2 := BitVec.ofNat _ a.holdPin
          CFG3 := BitVec.ofNat _ a.adcChannel
          CFG4 := BitVec.ofNat _ a.codec
          CFG5 := BitVec.ofNat _ a.peakDelay
          CFG6 := BitVec.ofNat _ a.resetSettleDelay
          CFG7 := BitVec.ofNat _ a.resetHoldDuration
          cfg_err :=
            Reference.mask a.edgePin a.resetPin a.holdPin a.adcChannel a.resetHoldDuration
          cfg_valid := decide
            (Reference.mask a.edgePin a.resetPin a.holdPin a.adcChannel a.resetHoldDuration = 0b000#3)
          cancel_pending := false })) ∧
    (s.regs.fsm ≠ .idle →
      exec (.loadConfig a) s = exec .nop s ∧ ∃ t, exec (.loadConfig a) s = .next t)

/-- R94: START is accepted in IDLE with cfg_valid = 1, and has no effect elsewhere. -/
def Obligations.StartLeavesIdleWhenValid : Prop :=
  ∀ s : State, s.inputs.rst = false →
    (s.regs.fsm = .idle → s.regs.cfg_valid = true →
      exec .start s = .next
        (Reference.after s { Reference.base s with fsm := .waitEdge, cancel_pending := false })) ∧
    (s.regs.fsm = .idle → s.regs.cfg_valid = false →
      exec .start s = .next (Reference.after s { Reference.base s with cancel_pending := false })) ∧
    (s.regs.fsm ≠ .idle → exec .start s = exec .nop s ∧ ∃ t, exec .start s = .next t)

/-- R95: CANCEL has no effect in IDLE; elsewhere it runs the tick as a request already pending would,
so giving it again changes nothing; in WAIT_EDGE it takes effect in its own tick, edge or no edge; at the
end of RESET_PULSE the Sample still comes out, at a failed completion the failure report. -/
def Obligations.CancelActsAsPendingRequest : Prop :=
  ∀ s : State, s.inputs.rst = false →
    (s.regs.fsm = .idle →
      exec .cancel s = .next (Reference.after s { Reference.base s with cancel_pending := false })) ∧
    (s.regs.fsm ≠ .idle →
      exec .cancel s = exec .nop { s with regs := { s.regs with cancel_pending := true } } ∧
        ∃ t, exec .cancel s = .next t) ∧
    (s.regs.fsm ≠ .idle → s.regs.cancel_pending = true → exec .cancel s = exec .nop s) ∧
    (s.regs.fsm = .waitEdge →
      exec .cancel s = .next
        (Reference.after s { Reference.base s with fsm := .idle, cancel_pending := false })) ∧
    (s.regs.fsm = .resetPulse → s.regs.cnt.toNat ≤ 1 →
      ∃ t, exec .cancel s = .next t ∧ t.regs.fsm = .idle ∧ t.regs.emit = true) ∧
    (s.regs.fsm = .holding → s.regs.xfer_busy = true → s.inputs.xfer_done = true →
      s.inputs.xfer_err = true →
      ∃ t, exec .cancel s = .next t ∧ t.regs.fsm = .idle ∧ t.regs.fail = true ∧
        t.regs.fail_cause_reg = s.inputs.xfer_cause)

/-! ## Codec rows as ticks (40_adc_codec.md, 41_sequencer.md) -/

/-- The four command rows in the issue tick: the row's byte is on xfer_tx0 with hold_out and xfer_start
high, the timestamp is taken and the exchange is in flight (R77, R62, R63). That a row is a whole tick is
the model's choice (log entry 8). -/
def Obligations.CommandRowStartsTheExchange : Prop :=
  ∀ (s : State) (i : Instr) (b : Byte), s.inputs.rst = false →
    (i = .adcCmdCh0 ∧ b = 0x68#8 ∨ i = .adcCmdCh1 ∧ b = 0x78#8 ∨
      i = .adcCmdCh0Legacy ∧ b = 0x68#8 ∨ i = .adcCmdCh1Legacy ∧ b = 0x78#8) →
    s.regs.fsm = .holding → s.regs.xfer_busy = false →
    exec i s = .next
      { regs :=
          { Reference.base s with
            ts_reg := s.inputs.rtc_in
            xfer_busy := true
            cancel_pending := Reference.cancelNow s.regs s.inputs }
        script := s.script.tail
        tick := s.tick + 1
        driven := some
          { outputs s.regs with hold_out := true, xfer_start := true, xfer_tx0 := b, xfer_tx1 := 0x00#8 } }

/-- The two response rows in HOLDING with the exchange in flight: the code is decoded into code_reg, and
the cycle goes on to SETTLE, to RESET_PULSE when CFG6 = 0, or to IDLE when a cancellation is pending or
commanded (R78, R64, R65). That a row is a whole tick is the model's choice (log entry 8). -/
def Obligations.ResponseRowCompletesTheExchange : Prop :=
  ∀ (s : State) (i : Instr) (b0 b1 : Byte) (code : Code), s.inputs.rst = false →
    (i = .adcRspDefault b0 b1 ∧ code = BitVec.ofNat 10 (((b0.toNat <<< 8) ||| b1.toNat) &&& 0x3FF) ∨
      i = .adcRspLegacy b0 b1 ∧ code = BitVec.ofNat 10 (((b0.toNat &&& 0x3) <<< 8) ||| b1.toNat)) →
    s.regs.fsm = .holding → s.regs.xfer_busy = true →
    (Reference.cancelNow s.regs s.inputs = true →
      exec i s = .next (Reference.after s
        { Reference.base s with code_reg := code, fsm := .idle, cancel_pending := false })) ∧
    (Reference.cancelNow s.regs s.inputs = false → s.regs.CFG6.toNat ≠ 0 →
      exec i s = .next (Reference.after s
        { Reference.base s with
          code_reg := code, fsm := .settle, cnt := s.regs.CFG6, cancel_pending := false })) ∧
    (Reference.cancelNow s.regs s.inputs = false → s.regs.CFG6.toNat = 0 →
      exec i s = .next (Reference.after s
        { Reference.base s with
          code_reg := code, fsm := .resetPulse, cnt := s.regs.CFG7, cancel_pending := false }))

/-- A frame answered in the issue tick or outside HOLDING is ignored (R104 (5), D40): the tick is the one
with xfer_done = 0. That a response row performed there is a whole tick is the model's choice (log entries
8, 12). -/
def Obligations.StrayResponseIsIgnored : Prop :=
  ∀ (s : State) (i : Instr) (b0 b1 : Byte),
    i = .adcRspDefault b0 b1 ∨ i = .adcRspLegacy b0 b1 →
    ¬(s.regs.fsm = .holding ∧ s.regs.xfer_busy = true) →
    exec i s = .next
      (Reference.after s (Reference.nextRegs s.regs { s.inputs with xfer_done := false }))

/-! ## The step -/

/-- A step is the meaning of the instruction the tick's frame decodes to, with nothing around it; which
word is the frame is the model's choice (log entry 8). -/
def Obligations.StepRunsTheDecodedInstruction : Prop :=
  ∀ (s : State) (i : Instr), decode s.regs.CFG4 s.frame = .ok i → step s = exec i s

/-- Whichever of the words standing on its ports a tick is read as, the step is that word's meaning. -/
def Obligations.EveryPresentedWordGivesTheStep : Prop :=
  ∀ (s : State) (f : Frame Config.params) (i : Instr), Reference.presents s f →
    decode s.regs.CFG4 f = .ok i → step s = exec i s

/-- A placed table word is the instruction the next step runs; how it is placed is the model's choice (log
entry 10). -/
def Obligations.PlacedWordIsRun : Prop :=
  ∀ (s : State) (nbits w : Nat) (i : Instr), decodeTableWord nbits w = some i →
    step (s.withFetchWord nbits w) = exec i (s.withFetchWord nbits w)

/-- The next-value equations of 10_state.md: a step gives every register the value its own rule gives,
uses up one input line and shows the outputs of S_t. -/
def Obligations.StepMeetsEveryRegisterRule : Prop :=
  ∀ s : State, step s = .next (Reference.after s (Reference.nextRegs s.regs s.inputs))

/-- The whole meaning of every instruction, in every state: the registers take the values of the register
rules for the input line that carries the instruction's word, one line is used up, and the outputs are
those of S_t, with a command row's own byte on xfer_tx0. The model's choices in it: the codec rows as whole
ticks (log entries 8, 12), operands cut to their ports (11). -/
def Obligations.EveryInstructionMeetsTheRegisterRules : Prop :=
  ∀ (i : Instr) (s : State),
    exec i s = .next
      { regs := Reference.nextRegs s.regs (Reference.lineOf i s)
        script := s.script.tail
        tick := s.tick + 1
        driven := some { outputs s.regs with xfer_tx0 := Reference.byteOf i s } }

/-- The machine takes the parameters of R7 as its argument: at every choice of them its step and its
instructions meet the register rules and its invariant is kept, from its reset state on; and the machine of
every other statement is that machine at R7's defaults (log entry 3). The model's choices in it are those of
the two statements before (log entries 8, 11, 12). -/
def Obligations.RegisterRulesHoldAtEveryWidth : Prop :=
  (∀ (P : Params) (S : Regs P) (I : Inputs P),
    next (hostCode I) (selectedDecoder S) S I = Reference.nextRegs S I ∧
      ∀ (c : HostCode) (dec : Byte → Byte → Code), S.Inv → (next c dec S I).Inv) ∧
  (∀ (P : Params) (s : Generic.State P),
    Generic.step s = .next (Reference.after s (Reference.nextRegs s.regs s.inputs)) ∧
      ∀ i : Instr, Generic.exec i s = .next
        { regs := Reference.nextRegs s.regs (Reference.lineOf i s)
          script := s.script.tail
          tick := s.tick + 1
          driven := some { outputs s.regs with xfer_tx0 := Reference.byteOf i s } }) ∧
  (∀ P : Params, (Generic.State.reset P).regs.Inv) ∧
  (∀ s : State, Generic.step s = step s ∧ ∀ i : Instr, Generic.exec i s = exec i s) ∧
  Generic.machine Config.params = core

/-- R97: every input pattern in every state has a defined next state, by a step and by every instruction.
That a codec row has one in a tick that does not use its word is the model's choice (log entry 12), and that
there is nothing to fault or refuse with is its reading of R97 (log entry 14). -/
def Obligations.EveryTickHasANextState : Prop :=
  ∀ s : State, (∃ t, step s = .next t) ∧ ∀ i : Instr, ∃ t, exec i s = .next t

/-! ## State rules (41_sequencer.md) -/

/-- R75, with enter_peak of R73. -/
def Obligations.WaitEdgeTick : Prop :=
  ∀ s : State, s.inputs.rst = false → s.regs.fsm = .waitEdge →
    ((outputs s.regs).status_state = 0b001#3 ∧ (outputs s.regs).running = true) ∧
    (Reference.cancelNow s.regs s.inputs = true →
      step s = .next
        (Reference.after s { Reference.base s with fsm := .idle, cancel_pending := false })) ∧
    (Reference.cancelNow s.regs s.inputs = false →
      s.regs.edge_prev = false ∧ s.inputs.edge_in = true → s.regs.CFG5.toNat = 0 →
      step s = .next (Reference.after s
        { Reference.base s with fsm := .holding, xfer_busy := false, cancel_pending := false })) ∧
    (Reference.cancelNow s.regs s.inputs = false →
      s.regs.edge_prev = false ∧ s.inputs.edge_in = true → s.regs.CFG5.toNat ≠ 0 →
      step s = .next (Reference.after s
        { Reference.base s with fsm := .peaking, cnt := s.regs.CFG5, cancel_pending := false })) ∧
    (Reference.cancelNow s.regs s.inputs = false →
      ¬(s.regs.edge_prev = false ∧ s.inputs.edge_in = true) →
      step s = .next (Reference.after s { Reference.base s with cancel_pending := false }))

/-- R76, with count_tick and enter_hold of R73. -/
def Obligations.PeakingTick : Prop :=
  ∀ s : State, s.inputs.rst = false → s.regs.fsm = .peaking →
    ((outputs s.regs).status_state = 0b010#3 ∧ (outputs s.regs).hold_out = false) ∧
    (2 ≤ s.regs.cnt.toNat →
      step s = .next (Reference.after s
        { Reference.base s with
          cnt := s.regs.cnt - 1, cancel_pending := Reference.cancelNow s.regs s.inputs })) ∧
    (s.regs.cnt.toNat ≤ 1 → Reference.cancelNow s.regs s.inputs = true →
      step s = .next (Reference.after s
        { Reference.base s with cnt := 0, fsm := .idle, cancel_pending := false })) ∧
    (s.regs.cnt.toNat ≤ 1 → Reference.cancelNow s.regs s.inputs = false →
      step s = .next (Reference.after s
        { Reference.base s with
          cnt := 0, fsm := .holding, xfer_busy := false, cancel_pending := false }))

/-- R77: the issue tick. xfer_done is not sampled, no cancellation is honoured, and for a valid channel
the byte on xfer_tx0 is encode(CFG3, CFG4). -/
def Obligations.HoldingIssueTick : Prop :=
  ∀ s : State, s.inputs.rst = false → s.regs.fsm = .holding → s.regs.xfer_busy = false →
    step s = .next (Reference.after s
      { Reference.base s with
        ts_reg := s.inputs.rtc_in
        xfer_busy := true
        cancel_pending := Reference.cancelNow s.regs s.inputs }) ∧
    (outputs s.regs).hold_out = true ∧ (outputs s.regs).xfer_start = true ∧
    (outputs s.regs).xfer_tx1 = 0x00#8 ∧ (outputs s.regs).status_state = 0b011#3 ∧
    (s.regs.CFG3.toNat = 0 ∨ s.regs.CFG3.toNat = 1 →
      encodeCommand s.regs.CFG3.toNat s.regs.CFG4 = .ok (outputs s.regs).xfer_tx0)

/-- R78: waiting for the answer, and a successful completion. -/
def Obligations.HoldingWaitAndSuccessTick : Prop :=
  ∀ s : State, s.inputs.rst = false → s.regs.fsm = .holding → s.regs.xfer_busy = true →
    ((outputs s.regs).status_state = 0b011#3 ∧ (outputs s.regs).hold_out = true ∧
      (outputs s.regs).xfer_start = false) ∧
    (s.inputs.xfer_done = false →
      step s = .next (Reference.after s
        { Reference.base s with cancel_pending := Reference.cancelNow s.regs s.inputs })) ∧
    (s.inputs.xfer_done = true → s.inputs.xfer_err = false →
      (Reference.cancelNow s.regs s.inputs = true →
        step s = .next (Reference.after s
          { Reference.base s with
            code_reg := decodeResponse s.inputs.xfer_rx0 s.inputs.xfer_rx1 s.regs.CFG4
            fsm := .idle
            cancel_pending := false })) ∧
      (Reference.cancelNow s.regs s.inputs = false → s.regs.CFG6.toNat ≠ 0 →
        step s = .next (Reference.after s
          { Reference.base s with
            code_reg := decodeResponse s.inputs.xfer_rx0 s.inputs.xfer_rx1 s.regs.CFG4
            fsm := .settle
            cnt := s.regs.CFG6
            cancel_pending := false })) ∧
      (Reference.cancelNow s.regs s.inputs = false → s.regs.CFG6.toNat = 0 →
        step s = .next (Reference.after s
          { Reference.base s with
            code_reg := decodeResponse s.inputs.xfer_rx0 s.inputs.xfer_rx1 s.regs.CFG4
            fsm := .resetPulse
            cnt := s.regs.CFG7
            cancel_pending := false })))

/-- R79 and R105: a failed completion reports the cause, writes no code and starts no reset pulse. -/
def Obligations.HoldingFailureTick : Prop :=
  ∀ s : State, s.inputs.rst = false → s.regs.fsm = .holding → s.regs.xfer_busy = true →
    s.inputs.xfer_done = true → s.inputs.xfer_err = true →
    (outputs s.regs).status_state = 0b011#3 ∧ ∃ t, step s = .next t ∧
      t = Reference.after s
        { Reference.base s with
          fail := true
          fail_cause_reg := s.inputs.xfer_cause
          fsm := if Reference.cancelNow s.regs s.inputs = true then .idle else .waitEdge
          cancel_pending := false } ∧
      (outputs t.regs).hold_out = false ∧ (outputs t.regs).fail_valid = true ∧
      (outputs t.regs).fail_cause = s.inputs.xfer_cause

/-- R80, with count_tick and enter_reset of R73. -/
def Obligations.SettleTick : Prop :=
  ∀ s : State, s.inputs.rst = false → s.regs.fsm = .settle →
    ((outputs s.regs).status_state = 0b100#3 ∧ (outputs s.regs).hold_out = false ∧
      (outputs s.regs).reset_out = false) ∧
    (2 ≤ s.regs.cnt.toNat →
      step s = .next (Reference.after s
        { Reference.base s with
          cnt := s.regs.cnt - 1, cancel_pending := Reference.cancelNow s.regs s.inputs })) ∧
    (s.regs.cnt.toNat ≤ 1 → Reference.cancelNow s.regs s.inputs = true →
      step s = .next (Reference.after s
        { Reference.base s with cnt := 0, fsm := .idle, cancel_pending := false })) ∧
    (s.regs.cnt.toNat ≤ 1 → Reference.cancelNow s.regs s.inputs = false →
      step s = .next (Reference.after s
        { Reference.base s with
          fsm := .resetPulse, cnt := s.regs.CFG7, cancel_pending := false }))

/-- R81: the pulse is not cut short by a cancellation, and the Sample is emitted before it is honoured. -/
def Obligations.ResetPulseTick : Prop :=
  ∀ s : State, s.inputs.rst = false → s.regs.fsm = .resetPulse →
    ((outputs s.regs).status_state = 0b101#3 ∧ (outputs s.regs).reset_out = true) ∧
    (2 ≤ s.regs.cnt.toNat →
      step s = .next (Reference.after s
        { Reference.base s with
          cnt := s.regs.cnt - 1, cancel_pending := Reference.cancelNow s.regs s.inputs })) ∧
    (s.regs.cnt.toNat ≤ 1 →
      step s = .next (Reference.after s
        { Reference.base s with
          cnt := 0
          emit := true
          fsm := if Reference.cancelNow s.regs s.inputs = true then .idle else .waitEdge
          cancel_pending := false }))

/-- R14, with R74 to R81 for the edges: the six codes, the code of `fsm` on status_state, never a reserved
one, and in a tick without `rst` only the moves the transition rules have; `rst` leads to IDLE (R114). That
`fsm` has the six states alone is the model's choice between the two R14 allows (log entry 5). -/
def Obligations.FsmMovesByTheTransitionRules : Prop :=
  (Fsm.idle.code = 0b000#3 ∧ Fsm.waitEdge.code = 0b001#3 ∧ Fsm.peaking.code = 0b010#3 ∧
    Fsm.holding.code = 0b011#3 ∧ Fsm.settle.code = 0b100#3 ∧ Fsm.resetPulse.code = 0b101#3) ∧
  ∀ s : State, ∃ t, step s = .next t ∧
    (outputs t.regs).status_state = t.regs.fsm.code ∧
    (outputs t.regs).status_state ≠ 0b110#3 ∧ (outputs t.regs).status_state ≠ 0b111#3 ∧
    (s.inputs.rst = false → t.regs.fsm ∈ Reference.successors s.regs.fsm) ∧
    (s.inputs.rst = true → t.regs.fsm = .idle)

/-- R71: the request is remembered until it takes effect, and takes effect at every honouring point and
at no other tick. -/
def Obligations.CancellationHonouredOnlyAtHonouringPoints : Prop :=
  ∀ s t : State, s.inputs.rst = false → step s = .next t →
    t.regs.cancel_pending = (Reference.cancelNow s.regs s.inputs && decide (t.regs.fsm ≠ .idle)) ∧
    (Reference.cancelNow s.regs s.inputs = true →
      Reference.honouringPoint s.regs s.inputs = true →
      t.regs.fsm = .idle ∧ t.regs.cancel_pending = false) ∧
    (Reference.cancelNow s.regs s.inputs = true →
      Reference.honouringPoint s.regs s.inputs = false →
      t.regs.fsm = s.regs.fsm ∧ t.regs.cancel_pending = true)

/-- R16 and R72: edge_prev follows edge_in in every tick; the edge counts in WAIT_EDGE only, and a
transition in another state changes nothing else now or, once edge_prev agrees again, later. -/
def Obligations.EdgesOutsideWaitEdgeAreLost : Prop :=
  (∀ s t : State, s.inputs.rst = false → step s = .next t → t.regs.edge_prev = s.inputs.edge_in) ∧
  ∀ (s : State) (I : Inputs Config.params) (l : List (Inputs Config.params)) (e : Bool),
    I.rst = false → s.regs.fsm ≠ .waitEdge →
    ∃ t u, step { s with script := I :: l } = .next t ∧
      step { s with script := { I with edge_in := e } :: l,
                    regs := { s.regs with edge_prev := !s.regs.edge_prev } } = .next u ∧
      t.regs.edge_prev = I.edge_in ∧ u.regs = { t.regs with edge_prev := e }

/-- R32: "an input a rule does not name in a given tick has no effect in that tick". -/
def Obligations.UnsampledInputsHaveNoEffect : Prop :=
  ∀ (s : State) (I J : Inputs Config.params) (l : List (Inputs Config.params)),
    Reference.sameSampled s.regs I J →
    step { s with script := I :: l } = step { s with script := J :: l }

/-- R82: the outputs shown in a tick are these functions of S_t; the 0x00 arm of xfer_tx0 is taken only in
IDLE with a configuration that is not valid. -/
def Obligations.OutputEquations : Prop :=
  ∀ s : State, ∃ t o, step s = .next t ∧ t.driven = some o ∧
    o.hold_out = decide (s.regs.fsm = .holding) ∧
    o.reset_out = decide (s.regs.fsm = .resetPulse) ∧
    o.xfer_start = decide (s.regs.fsm = .holding ∧ s.regs.xfer_busy = false) ∧
    o.xfer_tx0 = (if s.regs.CFG3.toNat = 0 then 0x68#8
      else if s.regs.CFG3.toNat = 1 then 0x78#8 else 0x00#8) ∧
    o.xfer_tx1 = 0x00#8 ∧
    o.sample_valid = s.regs.emit ∧ o.sample_ts = s.regs.ts_reg ∧ o.sample_code = s.regs.code_reg ∧
    o.fail_valid = s.regs.fail ∧ o.fail_cause = s.regs.fail_cause_reg ∧
    o.cfg_valid_out = s.regs.cfg_valid ∧ o.cfg_err_out = s.regs.cfg_err ∧
    o.status_state = s.regs.fsm.code ∧
    o.running = decide (s.regs.fsm = .waitEdge ∨ s.regs.fsm = .peaking ∨ s.regs.fsm = .holding ∨
      s.regs.fsm = .settle ∨ s.regs.fsm = .resetPulse) ∧
    o.edge_pin_id = s.regs.CFG0 ∧ o.reset_pin_id = s.regs.CFG1 ∧ o.hold_pin_id = s.regs.CFG2 ∧
    (s.regs.Inv → o.xfer_tx0 = 0x00#8 →
      s.regs.fsm = .idle ∧ s.regs.cfg_valid = false ∧ o.xfer_start = false)

/-! ## Reset (70_reset_and_hazards.md, 10_state.md) -/

/-- R34, register by register. -/
def Obligations.ResetRegisterValues : Prop :=
  State.reset.regs.fsm = .idle ∧ State.reset.regs.cnt = 0 ∧ State.reset.regs.edge_prev = true ∧
  State.reset.regs.xfer_busy = false ∧ State.reset.regs.cancel_pending = false ∧
  State.reset.regs.ts_reg = 0 ∧ State.reset.regs.code_reg = 0 ∧ State.reset.regs.emit = false ∧
  State.reset.regs.fail = false ∧ State.reset.regs.fail_cause_reg = 0 ∧
  State.reset.regs.CFG0 = 0 ∧ State.reset.regs.CFG1 = 0 ∧ State.reset.regs.CFG2 = 0 ∧
  State.reset.regs.CFG3 = 0 ∧ State.reset.regs.CFG4 = 0 ∧ State.reset.regs.CFG5 = 0 ∧
  State.reset.regs.CFG6 = 0 ∧ State.reset.regs.CFG7 = 0 ∧ State.reset.regs.cfg_valid = false ∧
  State.reset.regs.cfg_err = 0b000#3

/-- `rst` wins over everything, from any register contents (R114, R115) and for every instruction; the
outputs of the reset tick are still those of S_t, those after it are the listed ones. The model's choices in
it: the codec rows as whole ticks (log entries 8, 12), and that the reset tick uses up its line and counts
(log entry 17). -/
def Obligations.ResetTickWinsOverEverything : Prop :=
  ∀ s : State, s.inputs.rst = true →
    step s = .next (Reference.after s State.reset.regs) ∧
    (∀ (i : Instr) (t : State), exec i s = .next t → t.regs = State.reset.regs) ∧
    (outputs State.reset.regs).hold_out = false ∧ (outputs State.reset.regs).reset_out = false ∧
    (outputs State.reset.regs).xfer_start = false ∧
    (outputs State.reset.regs).sample_valid = false ∧ (outputs State.reset.regs).fail_valid = false ∧
    (outputs State.reset.regs).running = false ∧ (outputs State.reset.regs).cfg_valid_out = false ∧
    (outputs State.reset.regs).cfg_err_out = 0b000#3 ∧
    (outputs State.reset.regs).status_state = 0b000#3 ∧
    (outputs State.reset.regs).edge_pin_id = 0 ∧ (outputs State.reset.regs).reset_pin_id = 0 ∧
    (outputs State.reset.regs).hold_pin_id = 0

/-! ## Invariants and whole-machine rules -/

/-- The invariant of R35, kept by every step from every state that has it; clause (e) in one direction only
(log entry 6). -/
def Obligations.StepKeepsTheReachabilityFacts : Prop :=
  ∀ s t : State, s.regs.Inv → step s = .next t → t.regs.Inv

/-- The reset state has the invariant. -/
def Obligations.ResetStateHasTheReachabilityFacts : Prop := State.reset.regs.Inv

/-- R35 (b) and R89: the lines are never both high and are low in IDLE and WAIT_EDGE; every step out of
a cycle's states lands where they are low or inside the same cycle. -/
def Obligations.OutputLinesAreSafe : Prop :=
  ∀ s t : State, step s = .next t →
    (∃ o, t.driven = some o ∧ linesSafe o) ∧ linesSafe (outputs t.regs) ∧
    (s.regs.fsm = .holding → t.regs.fsm ≠ .holding → (outputs t.regs).hold_out = false) ∧
    (s.regs.fsm = .resetPulse → t.regs.fsm ≠ .resetPulse →
      (outputs t.regs).reset_out = false ∧ (outputs t.regs).hold_out = false)

/-- R83 and R87: HOLDING is entered with the exchange not started, starts it in exactly its first tick,
and is left exactly in the completion tick. -/
def Obligations.HoldBracketsOneExchange : Prop :=
  ∀ s t : State, s.inputs.rst = false → step s = .next t →
    (s.regs.fsm ≠ .holding → t.regs.fsm = .holding →
      (outputs t.regs).hold_out = true ∧ (outputs t.regs).xfer_start = true) ∧
    (s.regs.fsm = .holding → s.regs.xfer_busy = false →
      (outputs t.regs).hold_out = true ∧ (outputs t.regs).xfer_start = false) ∧
    (s.regs.fsm = .holding → s.regs.xfer_busy = true →
      ((outputs t.regs).hold_out = true ↔ s.inputs.xfer_done = false) ∧
        (outputs t.regs).xfer_start = false)

/-- R21 and R22: each pulse lasts the one tick after its cause, and the cause register is written by a
failure only. -/
def Obligations.PulsesFollowTheirCausesByOneTick : Prop :=
  ∀ s t : State, step s = .next t →
    (t.regs.emit = true ↔
      s.inputs.rst = false ∧ s.regs.fsm = .resetPulse ∧ s.regs.cnt.toNat ≤ 1) ∧
    (t.regs.fail = true ↔
      s.inputs.rst = false ∧ s.regs.fsm = .holding ∧ s.regs.xfer_busy = true ∧
        s.inputs.xfer_done = true ∧ s.inputs.xfer_err = true) ∧
    (t.regs.fail = true → t.regs.fail_cause_reg = s.inputs.xfer_cause) ∧
    (s.inputs.rst = false → t.regs.fail = false → t.regs.fail_cause_reg = s.regs.fail_cause_reg) ∧
    (outputs t.regs).sample_valid = t.regs.emit ∧ (outputs t.regs).fail_valid = t.regs.fail ∧
    (outputs t.regs).fail_cause = t.regs.fail_cause_reg

/-- R90: without `rst`, only an honoured cancellation takes a running sequencer to IDLE. -/
def Obligations.OnlyCancellationStopsTheLoop : Prop :=
  ∀ s t : State, s.regs.Inv → s.inputs.rst = false → step s = .next t → s.regs.fsm ≠ .idle →
    (t.regs.fsm = .idle ↔
      Reference.cancelNow s.regs s.inputs = true ∧ Reference.honouringPoint s.regs s.inputs = true)

/-- R30 and R31, in every tick but a reset tick: LOAD_CONFIG in IDLE makes cfg_err = 0b000 and
cfg_valid = 1 agree, and no tick parts them again. At reset they disagree (R34; log entry 6). -/
def Obligations.VerdictAndReportAgreeOnceLoaded : Prop :=
  ∀ s t : State, s.inputs.rst = false → step s = .next t →
    (Reference.load s.regs s.inputs = true ∨ (s.regs.cfg_err = 0b000#3 ↔ s.regs.cfg_valid = true)) →
    (t.regs.cfg_err = 0b000#3 ↔ t.regs.cfg_valid = true)

/-- The frame of every instruction (R13 to R31): each register is written only in the ticks its own rule
names, and cancel_pending and edge_prev, which every tick writes, take their rules' values. The codec rows as
whole ticks are the model's choice (log entries 8, 12). -/
def Obligations.FrameOfEveryInstruction : Prop :=
  ∀ (i : Instr) (s t : State), s.inputs.rst = false → exec i s = .next t →
    t.script = s.script.tail ∧
    (Reference.load s.regs (Reference.lineOf i s) = false → Reference.sameConfig s.regs t.regs) ∧
    (Reference.issue s.regs = false → t.regs.ts_reg = s.regs.ts_reg) ∧
    (Reference.success s.regs (Reference.lineOf i s) = false → t.regs.code_reg = s.regs.code_reg) ∧
    (Reference.failure s.regs (Reference.lineOf i s) = false →
      t.regs.fail_cause_reg = s.regs.fail_cause_reg ∧ t.regs.fail = false) ∧
    (Reference.endPulse s.regs = false → t.regs.emit = false) ∧
    (Reference.startHold s.regs (Reference.lineOf i s) = false → Reference.issue s.regs = false →
      t.regs.xfer_busy = s.regs.xfer_busy) ∧
    (Reference.startPeak s.regs (Reference.lineOf i s) = false →
      Reference.startSettle s.regs (Reference.lineOf i s) = false →
      Reference.startReset s.regs (Reference.lineOf i s) = false → Reference.inDelay s.regs = false →
      t.regs.cnt = s.regs.cnt) ∧
    t.regs.edge_prev = s.inputs.edge_in ∧
    t.regs.cancel_pending =
      (Reference.cancelNow s.regs (Reference.lineOf i s) && decide (t.regs.fsm ≠ .idle)) ∧
    (s.regs.fsm = .idle → Reference.start s.regs (Reference.lineOf i s) = false →
      t.regs.fsm = .idle) ∧
    (Reference.moves s.regs (Reference.lineOf i s) = false → t.regs.fsm = s.regs.fsm)

/-- R23 and R48: from the tick after START to the return to IDLE the configuration is constant, whatever
the host gives. -/
def Obligations.ConfigurationIsLockedWhileRunning : Prop :=
  ∀ (n : Nat) (s t : State), runTicks n s = .next t →
    (∀ k u, k < n → runTicks k s = .next u → u.regs.fsm ≠ .idle ∧ u.inputs.rst = false) →
    Reference.sameConfig s.regs t.regs

/-! ## Runs of several ticks (41_sequencer.md section 4, 70_reset_and_hazards.md) -/

/-- R73: a delay state with the count D ≥ 1 lasts exactly D ticks, cancelled or not, unless `rst` comes. -/
def Obligations.DelayStateLastsItsCount : Prop :=
  ∀ (n : Nat) (s : State), Reference.inDelay s.regs = true → s.regs.cnt.toNat = n → 1 ≤ n →
    n ≤ s.script.length → (∀ I ∈ s.script.take n, I.rst = false) →
    (∀ k, k < n → ∃ u, runTicks k s = .next u ∧ u.regs.fsm = s.regs.fsm ∧
      u.regs.cnt.toNat = n - k) ∧
    ∃ t, runTicks n s = .next t ∧ t.regs.fsm ≠ s.regs.fsm ∧
      (t.regs.emit = true ↔ s.regs.fsm = .resetPulse)

/-- R85 and R125: the latencies of a whole cycle. With the edge detected in the first tick and the
exchange answered after L = wait.length + 1 ticks, the hold rises CFG5 + 1 ticks later, the reset pulse
starts CFG5 + CFG6 + L + 2 ticks later, and the Sample of this cycle's timestamp and frame is out, back
in WAIT_EDGE, CFG5 + CFG6 + CFG7 + L + 2 ticks later. -/
def Obligations.WholeCycleLatencies : Prop :=
  ∀ (s : State) (edge issue done : Inputs Config.params)
    (peak wait settle pulse rest : List (Inputs Config.params)),
    s.script = edge :: (peak ++ issue :: (wait ++ done :: (settle ++ (pulse ++ rest)))) →
    (∀ I ∈ edge :: (peak ++ issue :: (wait ++ done :: (settle ++ pulse))), calmLine I) →
    s.regs.fsm = .waitEdge → s.regs.cancel_pending = false →
    s.regs.edge_prev = false → edge.edge_in = true →
    (∀ I ∈ wait, I.xfer_done = false) → done.xfer_done = true → done.xfer_err = false →
    peak.length = s.regs.CFG5.toNat → settle.length = s.regs.CFG6.toNat →
    pulse.length = s.regs.CFG7.toNat → 1 ≤ s.regs.CFG7.toNat →
    (∃ h, runTicks (s.regs.CFG5.toNat + 1) s = .next h ∧ (outputs h.regs).hold_out = true ∧
      (outputs h.regs).xfer_start = true) ∧
    (∃ r, runTicks (s.regs.CFG5.toNat + s.regs.CFG6.toNat + (wait.length + 1) + 2) s = .next r ∧
      (outputs r.regs).reset_out = true ∧ r.regs.cnt = s.regs.CFG7) ∧
    ∃ t, runTicks
        (s.regs.CFG5.toNat + s.regs.CFG6.toNat + s.regs.CFG7.toNat + (wait.length + 1) + 2) s =
        .next t ∧
      t.regs.fsm = .waitEdge ∧ t.script = rest ∧
      (outputs t.regs).sample_valid = true ∧ (outputs t.regs).sample_ts = issue.rtc_in ∧
      (outputs t.regs).sample_code = Reference.codeOf done.xfer_rx0 done.xfer_rx1 ∧
      (outputs t.regs).fail_valid = false

/-- R102: a trigger line that never rises leaves the machine in WAIT_EDGE for any number of ticks,
reporting nothing. -/
def Obligations.StalledEdgeWaitReportsNothing : Prop :=
  ∀ (n : Nat) (s : State), s.regs.fsm = .waitEdge → s.regs.cancel_pending = false →
    n ≤ s.script.length → (∀ I ∈ s.script.take n, calmLine I) →
    Reference.neverRises s.regs.edge_prev (s.script.take n) →
    ∃ t, runTicks n s = .next t ∧ t.regs.fsm = .waitEdge ∧
      (1 ≤ n → (outputs t.regs).sample_valid = false ∧ (outputs t.regs).fail_valid = false)

/-- R120 and R110: an exchange never answered leaves the machine in HOLDING with the hold high, whatever
the host commands; there is no timeout. -/
def Obligations.UnansweredExchangeHangsInHolding : Prop :=
  ∀ (n : Nat) (s : State), s.regs.fsm = .holding → n ≤ s.script.length →
    (∀ I ∈ s.script.take n, I.rst = false) →
    (∀ k I, s.script[k]? = some I → k < n → s.regs.xfer_busy = true ∨ 1 ≤ k → I.xfer_done = false) →
    ∃ t, runTicks n s = .next t ∧ t.regs.fsm = .holding ∧ (outputs t.regs).hold_out = true ∧
      (1 ≤ n → (outputs t.regs).sample_valid = false ∧ (outputs t.regs).fail_valid = false)

/-- R124: a request pending in a delay state takes effect when its count has run, and not before; only
at the end of RESET_PULSE does a Sample come with it. -/
def Obligations.PendingCancellationEndsTheDelayInIdle : Prop :=
  ∀ (n : Nat) (s : State), Reference.inDelay s.regs = true → s.regs.cancel_pending = true →
    s.regs.cnt.toNat = n → 1 ≤ n → n ≤ s.script.length →
    (∀ I ∈ s.script.take n, I.rst = false) →
    (∀ k, k < n → ∃ u, runTicks k s = .next u ∧ (outputs u.regs).running = true ∧
      (outputs u.regs).hold_out = false) ∧
    ∃ t, runTicks n s = .next t ∧ (outputs t.regs).running = false ∧
      (outputs t.regs).hold_out = false ∧ (outputs t.regs).reset_out = false ∧
      t.regs.cancel_pending = false ∧
      ((outputs t.regs).sample_valid = true ↔ s.regs.fsm = .resetPulse)

/-- R106: after a failure report the next one comes at least 3 ticks later. -/
def Obligations.FailureReportsAreThreeTicksApart : Prop :=
  ∀ s t u v : State, step s = .next t → step t = .next u → step u = .next v →
    (outputs t.regs).fail_valid = true →
    (outputs u.regs).fail_valid = false ∧ (outputs v.regs).fail_valid = false

/-- R118: a START in the tick after a LOAD_CONFIG sees that LOAD_CONFIG's verdict. -/
def Obligations.StartSeesTheVerdictOfTheTickBefore : Prop :=
  ∀ (s : State) (I J : Inputs Config.params) (l : List (Inputs Config.params)),
    s.script = I :: J :: l → I.rst = false → J.rst = false → s.regs.fsm = .idle →
    I.host_cmd = 0b01#2 → J.host_cmd = 0b10#2 →
    ∃ t, runTicks 2 s = .next t ∧
      (Reference.portMask I.cfg = 0b000#3 → t.regs.fsm = .waitEdge) ∧
      (Reference.portMask I.cfg ≠ 0b000#3 → t.regs.fsm = .idle)

/-! ## The reset rule by itself (70_reset_and_hazards.md) -/

/-- R114: in a tick with `rst` = 1 the next registers are the reset state whatever the registers and the
other inputs are; the outputs of the tick are still those of S_t, those of the next tick the listed ones. -/
def Obligations.ResetTickLeavesTheResetState : Prop :=
  ∀ s : State, s.inputs.rst = true →
    ∃ t o, step s = .next t ∧ t.regs = State.reset.regs ∧ t.regs.fsm = .idle ∧
      t.driven = some (outputs s.regs) ∧ o = outputs t.regs ∧
      o.hold_out = false ∧ o.reset_out = false ∧ o.xfer_start = false ∧
      o.sample_valid = false ∧ o.fail_valid = false ∧ o.running = false ∧
      o.cfg_valid_out = false ∧ o.cfg_err_out = 0b000#3 ∧ o.status_state = 0b000#3 ∧
      o.edge_pin_id = 0 ∧ o.reset_pin_id = 0 ∧ o.hold_pin_id = 0
end

