-- ==== Sys2Proof/Laws/State.lean ====
section
/-! SUPPORT. One lemma per field per update of the registers and of the state, so that no later proof
unfolds a record update. -/

namespace Sys2Proof.Machine

variable {P : Params}

/-! tickDefaults (R70) -/

@[simp] theorem tickDefaults_fsm (I : Inputs P) (D : Regs P) : (tickDefaults I D).fsm = D.fsm := rfl
@[simp] theorem tickDefaults_cnt (I : Inputs P) (D : Regs P) : (tickDefaults I D).cnt = D.cnt := rfl
@[simp] theorem tickDefaults_edge_prev (I : Inputs P) (D : Regs P) : (tickDefaults I D).edge_prev = I.edge_in := rfl
@[simp] theorem tickDefaults_xfer_busy (I : Inputs P) (D : Regs P) : (tickDefaults I D).xfer_busy = D.xfer_busy := rfl
@[simp] theorem tickDefaults_cancel_pending (I : Inputs P) (D : Regs P) : (tickDefaults I D).cancel_pending = D.cancel_pending := rfl
@[simp] theorem tickDefaults_ts_reg (I : Inputs P) (D : Regs P) : (tickDefaults I D).ts_reg = D.ts_reg := rfl
@[simp] theorem tickDefaults_code_reg (I : Inputs P) (D : Regs P) : (tickDefaults I D).code_reg = D.code_reg := rfl
@[simp] theorem tickDefaults_emit (I : Inputs P) (D : Regs P) : (tickDefaults I D).emit = false := rfl
@[simp] theorem tickDefaults_fail (I : Inputs P) (D : Regs P) : (tickDefaults I D).fail = false := rfl
@[simp] theorem tickDefaults_fail_cause_reg (I : Inputs P) (D : Regs P) : (tickDefaults I D).fail_cause_reg = D.fail_cause_reg := rfl
@[simp] theorem tickDefaults_CFG0 (I : Inputs P) (D : Regs P) : (tickDefaults I D).CFG0 = D.CFG0 := rfl
@[simp] theorem tickDefaults_CFG1 (I : Inputs P) (D : Regs P) : (tickDefaults I D).CFG1 = D.CFG1 := rfl
@[simp] theorem tickDefaults_CFG2 (I : Inputs P) (D : Regs P) : (tickDefaults I D).CFG2 = D.CFG2 := rfl
@[simp] theorem tickDefaults_CFG3 (I : Inputs P) (D : Regs P) : (tickDefaults I D).CFG3 = D.CFG3 := rfl
@[simp] theorem tickDefaults_CFG4 (I : Inputs P) (D : Regs P) : (tickDefaults I D).CFG4 = D.CFG4 := rfl
@[simp] theorem tickDefaults_CFG5 (I : Inputs P) (D : Regs P) : (tickDefaults I D).CFG5 = D.CFG5 := rfl
@[simp] theorem tickDefaults_CFG6 (I : Inputs P) (D : Regs P) : (tickDefaults I D).CFG6 = D.CFG6 := rfl
@[simp] theorem tickDefaults_CFG7 (I : Inputs P) (D : Regs P) : (tickDefaults I D).CFG7 = D.CFG7 := rfl
@[simp] theorem tickDefaults_cfg_valid (I : Inputs P) (D : Regs P) : (tickDefaults I D).cfg_valid = D.cfg_valid := rfl
@[simp] theorem tickDefaults_cfg_err (I : Inputs P) (D : Regs P) : (tickDefaults I D).cfg_err = D.cfg_err := rfl

/-! latchCancel (R71) -/

@[simp] theorem latchCancel_fsm (cn : Bool) (D : Regs P) : (latchCancel cn D).fsm = D.fsm := rfl
@[simp] theorem latchCancel_cnt (cn : Bool) (D : Regs P) : (latchCancel cn D).cnt = D.cnt := rfl
@[simp] theorem latchCancel_edge_prev (cn : Bool) (D : Regs P) : (latchCancel cn D).edge_prev = D.edge_prev := rfl
@[simp] theorem latchCancel_xfer_busy (cn : Bool) (D : Regs P) : (latchCancel cn D).xfer_busy = D.xfer_busy := rfl
@[simp] theorem latchCancel_cancel_pending (cn : Bool) (D : Regs P) : (latchCancel cn D).cancel_pending = (cn && decide (D.fsm ≠ .idle)) := rfl
@[simp] theorem latchCancel_ts_reg (cn : Bool) (D : Regs P) : (latchCancel cn D).ts_reg = D.ts_reg := rfl
@[simp] theorem latchCancel_code_reg (cn : Bool) (D : Regs P) : (latchCancel cn D).code_reg = D.code_reg := rfl
@[simp] theorem latchCancel_emit (cn : Bool) (D : Regs P) : (latchCancel cn D).emit = D.emit := rfl
@[simp] theorem latchCancel_fail (cn : Bool) (D : Regs P) : (latchCancel cn D).fail = D.fail := rfl
@[simp] theorem latchCancel_fail_cause_reg (cn : Bool) (D : Regs P) : (latchCancel cn D).fail_cause_reg = D.fail_cause_reg := rfl
@[simp] theorem latchCancel_CFG0 (cn : Bool) (D : Regs P) : (latchCancel cn D).CFG0 = D.CFG0 := rfl
@[simp] theorem latchCancel_CFG1 (cn : Bool) (D : Regs P) : (latchCancel cn D).CFG1 = D.CFG1 := rfl
@[simp] theorem latchCancel_CFG2 (cn : Bool) (D : Regs P) : (latchCancel cn D).CFG2 = D.CFG2 := rfl
@[simp] theorem latchCancel_CFG3 (cn : Bool) (D : Regs P) : (latchCancel cn D).CFG3 = D.CFG3 := rfl
@[simp] theorem latchCancel_CFG4 (cn : Bool) (D : Regs P) : (latchCancel cn D).CFG4 = D.CFG4 := rfl
@[simp] theorem latchCancel_CFG5 (cn : Bool) (D : Regs P) : (latchCancel cn D).CFG5 = D.CFG5 := rfl
@[simp] theorem latchCancel_CFG6 (cn : Bool) (D : Regs P) : (latchCancel cn D).CFG6 = D.CFG6 := rfl
@[simp] theorem latchCancel_CFG7 (cn : Bool) (D : Regs P) : (latchCancel cn D).CFG7 = D.CFG7 := rfl
@[simp] theorem latchCancel_cfg_valid (cn : Bool) (D : Regs P) : (latchCancel cn D).cfg_valid = D.cfg_valid := rfl
@[simp] theorem latchCancel_cfg_err (cn : Bool) (D : Regs P) : (latchCancel cn D).cfg_err = D.cfg_err := rfl

/-! enterHold (R73) -/

@[simp] theorem enterHold_fsm (D : Regs P) : (enterHold D).fsm = .holding := rfl
@[simp] theorem enterHold_cnt (D : Regs P) : (enterHold D).cnt = D.cnt := rfl
@[simp] theorem enterHold_edge_prev (D : Regs P) : (enterHold D).edge_prev = D.edge_prev := rfl
@[simp] theorem enterHold_xfer_busy (D : Regs P) : (enterHold D).xfer_busy = false := rfl
@[simp] theorem enterHold_cancel_pending (D : Regs P) : (enterHold D).cancel_pending = D.cancel_pending := rfl
@[simp] theorem enterHold_ts_reg (D : Regs P) : (enterHold D).ts_reg = D.ts_reg := rfl
@[simp] theorem enterHold_code_reg (D : Regs P) : (enterHold D).code_reg = D.code_reg := rfl
@[simp] theorem enterHold_emit (D : Regs P) : (enterHold D).emit = D.emit := rfl
@[simp] theorem enterHold_fail (D : Regs P) : (enterHold D).fail = D.fail := rfl
@[simp] theorem enterHold_fail_cause_reg (D : Regs P) : (enterHold D).fail_cause_reg = D.fail_cause_reg := rfl
@[simp] theorem enterHold_CFG0 (D : Regs P) : (enterHold D).CFG0 = D.CFG0 := rfl
@[simp] theorem enterHold_CFG1 (D : Regs P) : (enterHold D).CFG1 = D.CFG1 := rfl
@[simp] theorem enterHold_CFG2 (D : Regs P) : (enterHold D).CFG2 = D.CFG2 := rfl
@[simp] theorem enterHold_CFG3 (D : Regs P) : (enterHold D).CFG3 = D.CFG3 := rfl
@[simp] theorem enterHold_CFG4 (D : Regs P) : (enterHold D).CFG4 = D.CFG4 := rfl
@[simp] theorem enterHold_CFG5 (D : Regs P) : (enterHold D).CFG5 = D.CFG5 := rfl
@[simp] theorem enterHold_CFG6 (D : Regs P) : (enterHold D).CFG6 = D.CFG6 := rfl
@[simp] theorem enterHold_CFG7 (D : Regs P) : (enterHold D).CFG7 = D.CFG7 := rfl
@[simp] theorem enterHold_cfg_valid (D : Regs P) : (enterHold D).cfg_valid = D.cfg_valid := rfl
@[simp] theorem enterHold_cfg_err (D : Regs P) : (enterHold D).cfg_err = D.cfg_err := rfl

/-! enterReset (R73) -/

@[simp] theorem enterReset_fsm (D : Regs P) : (enterReset D).fsm = .resetPulse := rfl
@[simp] theorem enterReset_cnt (D : Regs P) : (enterReset D).cnt = D.CFG7 := rfl
@[simp] theorem enterReset_edge_prev (D : Regs P) : (enterReset D).edge_prev = D.edge_prev := rfl
@[simp] theorem enterReset_xfer_busy (D : Regs P) : (enterReset D).xfer_busy = D.xfer_busy := rfl
@[simp] theorem enterReset_cancel_pending (D : Regs P) : (enterReset D).cancel_pending = D.cancel_pending := rfl
@[simp] theorem enterReset_ts_reg (D : Regs P) : (enterReset D).ts_reg = D.ts_reg := rfl
@[simp] theorem enterReset_code_reg (D : Regs P) : (enterReset D).code_reg = D.code_reg := rfl
@[simp] theorem enterReset_emit (D : Regs P) : (enterReset D).emit = D.emit := rfl
@[simp] theorem enterReset_fail (D : Regs P) : (enterReset D).fail = D.fail := rfl
@[simp] theorem enterReset_fail_cause_reg (D : Regs P) : (enterReset D).fail_cause_reg = D.fail_cause_reg := rfl
@[simp] theorem enterReset_CFG0 (D : Regs P) : (enterReset D).CFG0 = D.CFG0 := rfl
@[simp] theorem enterReset_CFG1 (D : Regs P) : (enterReset D).CFG1 = D.CFG1 := rfl
@[simp] theorem enterReset_CFG2 (D : Regs P) : (enterReset D).CFG2 = D.CFG2 := rfl
@[simp] theorem enterReset_CFG3 (D : Regs P) : (enterReset D).CFG3 = D.CFG3 := rfl
@[simp] theorem enterReset_CFG4 (D : Regs P) : (enterReset D).CFG4 = D.CFG4 := rfl
@[simp] theorem enterReset_CFG5 (D : Regs P) : (enterReset D).CFG5 = D.CFG5 := rfl
@[simp] theorem enterReset_CFG6 (D : Regs P) : (enterReset D).CFG6 = D.CFG6 := rfl
@[simp] theorem enterReset_CFG7 (D : Regs P) : (enterReset D).CFG7 = D.CFG7 := rfl
@[simp] theorem enterReset_cfg_valid (D : Regs P) : (enterReset D).cfg_valid = D.cfg_valid := rfl
@[simp] theorem enterReset_cfg_err (D : Regs P) : (enterReset D).cfg_err = D.cfg_err := rfl

/-! countTick (R73) -/

@[simp] theorem countTick_fsm (D : Regs P) : (countTick D).fsm = D.fsm := rfl
@[simp] theorem countTick_cnt (D : Regs P) : (countTick D).cnt = if D.cnt = 0#P.wDelay then 0#P.wDelay else D.cnt - 1#P.wDelay := rfl
@[simp] theorem countTick_edge_prev (D : Regs P) : (countTick D).edge_prev = D.edge_prev := rfl
@[simp] theorem countTick_xfer_busy (D : Regs P) : (countTick D).xfer_busy = D.xfer_busy := rfl
@[simp] theorem countTick_cancel_pending (D : Regs P) : (countTick D).cancel_pending = D.cancel_pending := rfl
@[simp] theorem countTick_ts_reg (D : Regs P) : (countTick D).ts_reg = D.ts_reg := rfl
@[simp] theorem countTick_code_reg (D : Regs P) : (countTick D).code_reg = D.code_reg := rfl
@[simp] theorem countTick_emit (D : Regs P) : (countTick D).emit = D.emit := rfl
@[simp] theorem countTick_fail (D : Regs P) : (countTick D).fail = D.fail := rfl
@[simp] theorem countTick_fail_cause_reg (D : Regs P) : (countTick D).fail_cause_reg = D.fail_cause_reg := rfl
@[simp] theorem countTick_CFG0 (D : Regs P) : (countTick D).CFG0 = D.CFG0 := rfl
@[simp] theorem countTick_CFG1 (D : Regs P) : (countTick D).CFG1 = D.CFG1 := rfl
@[simp] theorem countTick_CFG2 (D : Regs P) : (countTick D).CFG2 = D.CFG2 := rfl
@[simp] theorem countTick_CFG3 (D : Regs P) : (countTick D).CFG3 = D.CFG3 := rfl
@[simp] theorem countTick_CFG4 (D : Regs P) : (countTick D).CFG4 = D.CFG4 := rfl
@[simp] theorem countTick_CFG5 (D : Regs P) : (countTick D).CFG5 = D.CFG5 := rfl
@[simp] theorem countTick_CFG6 (D : Regs P) : (countTick D).CFG6 = D.CFG6 := rfl
@[simp] theorem countTick_CFG7 (D : Regs P) : (countTick D).CFG7 = D.CFG7 := rfl
@[simp] theorem countTick_cfg_valid (D : Regs P) : (countTick D).cfg_valid = D.cfg_valid := rfl
@[simp] theorem countTick_cfg_err (D : Regs P) : (countTick D).cfg_err = D.cfg_err := rfl

/-! goIdle (R71) -/

@[simp] theorem goIdle_fsm (D : Regs P) : (goIdle D).fsm = .idle := rfl
@[simp] theorem goIdle_cnt (D : Regs P) : (goIdle D).cnt = D.cnt := rfl
@[simp] theorem goIdle_edge_prev (D : Regs P) : (goIdle D).edge_prev = D.edge_prev := rfl
@[simp] theorem goIdle_xfer_busy (D : Regs P) : (goIdle D).xfer_busy = D.xfer_busy := rfl
@[simp] theorem goIdle_cancel_pending (D : Regs P) : (goIdle D).cancel_pending = D.cancel_pending := rfl
@[simp] theorem goIdle_ts_reg (D : Regs P) : (goIdle D).ts_reg = D.ts_reg := rfl
@[simp] theorem goIdle_code_reg (D : Regs P) : (goIdle D).code_reg = D.code_reg := rfl
@[simp] theorem goIdle_emit (D : Regs P) : (goIdle D).emit = D.emit := rfl
@[simp] theorem goIdle_fail (D : Regs P) : (goIdle D).fail = D.fail := rfl
@[simp] theorem goIdle_fail_cause_reg (D : Regs P) : (goIdle D).fail_cause_reg = D.fail_cause_reg := rfl
@[simp] theorem goIdle_CFG0 (D : Regs P) : (goIdle D).CFG0 = D.CFG0 := rfl
@[simp] theorem goIdle_CFG1 (D : Regs P) : (goIdle D).CFG1 = D.CFG1 := rfl
@[simp] theorem goIdle_CFG2 (D : Regs P) : (goIdle D).CFG2 = D.CFG2 := rfl
@[simp] theorem goIdle_CFG3 (D : Regs P) : (goIdle D).CFG3 = D.CFG3 := rfl
@[simp] theorem goIdle_CFG4 (D : Regs P) : (goIdle D).CFG4 = D.CFG4 := rfl
@[simp] theorem goIdle_CFG5 (D : Regs P) : (goIdle D).CFG5 = D.CFG5 := rfl
@[simp] theorem goIdle_CFG6 (D : Regs P) : (goIdle D).CFG6 = D.CFG6 := rfl
@[simp] theorem goIdle_CFG7 (D : Regs P) : (goIdle D).CFG7 = D.CFG7 := rfl
@[simp] theorem goIdle_cfg_valid (D : Regs P) : (goIdle D).cfg_valid = D.cfg_valid := rfl
@[simp] theorem goIdle_cfg_err (D : Regs P) : (goIdle D).cfg_err = D.cfg_err := rfl

/-! issueRule (R77) -/

@[simp] theorem issueRule_fsm (I : Inputs P) (D : Regs P) : (issueRule I D).fsm = D.fsm := rfl
@[simp] theorem issueRule_cnt (I : Inputs P) (D : Regs P) : (issueRule I D).cnt = D.cnt := rfl
@[simp] theorem issueRule_edge_prev (I : Inputs P) (D : Regs P) : (issueRule I D).edge_prev = D.edge_prev := rfl
@[simp] theorem issueRule_xfer_busy (I : Inputs P) (D : Regs P) : (issueRule I D).xfer_busy = true := rfl
@[simp] theorem issueRule_cancel_pending (I : Inputs P) (D : Regs P) : (issueRule I D).cancel_pending = D.cancel_pending := rfl
@[simp] theorem issueRule_ts_reg (I : Inputs P) (D : Regs P) : (issueRule I D).ts_reg = I.rtc_in := rfl
@[simp] theorem issueRule_code_reg (I : Inputs P) (D : Regs P) : (issueRule I D).code_reg = D.code_reg := rfl
@[simp] theorem issueRule_emit (I : Inputs P) (D : Regs P) : (issueRule I D).emit = D.emit := rfl
@[simp] theorem issueRule_fail (I : Inputs P) (D : Regs P) : (issueRule I D).fail = D.fail := rfl
@[simp] theorem issueRule_fail_cause_reg (I : Inputs P) (D : Regs P) : (issueRule I D).fail_cause_reg = D.fail_cause_reg := rfl
@[simp] theorem issueRule_CFG0 (I : Inputs P) (D : Regs P) : (issueRule I D).CFG0 = D.CFG0 := rfl
@[simp] theorem issueRule_CFG1 (I : Inputs P) (D : Regs P) : (issueRule I D).CFG1 = D.CFG1 := rfl
@[simp] theorem issueRule_CFG2 (I : Inputs P) (D : Regs P) : (issueRule I D).CFG2 = D.CFG2 := rfl
@[simp] theorem issueRule_CFG3 (I : Inputs P) (D : Regs P) : (issueRule I D).CFG3 = D.CFG3 := rfl
@[simp] theorem issueRule_CFG4 (I : Inputs P) (D : Regs P) : (issueRule I D).CFG4 = D.CFG4 := rfl
@[simp] theorem issueRule_CFG5 (I : Inputs P) (D : Regs P) : (issueRule I D).CFG5 = D.CFG5 := rfl
@[simp] theorem issueRule_CFG6 (I : Inputs P) (D : Regs P) : (issueRule I D).CFG6 = D.CFG6 := rfl
@[simp] theorem issueRule_CFG7 (I : Inputs P) (D : Regs P) : (issueRule I D).CFG7 = D.CFG7 := rfl
@[simp] theorem issueRule_cfg_valid (I : Inputs P) (D : Regs P) : (issueRule I D).cfg_valid = D.cfg_valid := rfl
@[simp] theorem issueRule_cfg_err (I : Inputs P) (D : Regs P) : (issueRule I D).cfg_err = D.cfg_err := rfl

/-! reportConfig (R92) -/

@[simp] theorem reportConfig_fsm (m : BitVec 3) (D : Regs P) : (reportConfig m D).fsm = D.fsm := rfl
@[simp] theorem reportConfig_cnt (m : BitVec 3) (D : Regs P) : (reportConfig m D).cnt = D.cnt := rfl
@[simp] theorem reportConfig_edge_prev (m : BitVec 3) (D : Regs P) : (reportConfig m D).edge_prev = D.edge_prev := rfl
@[simp] theorem reportConfig_xfer_busy (m : BitVec 3) (D : Regs P) : (reportConfig m D).xfer_busy = D.xfer_busy := rfl
@[simp] theorem reportConfig_cancel_pending (m : BitVec 3) (D : Regs P) : (reportConfig m D).cancel_pending = D.cancel_pending := rfl
@[simp] theorem reportConfig_ts_reg (m : BitVec 3) (D : Regs P) : (reportConfig m D).ts_reg = D.ts_reg := rfl
@[simp] theorem reportConfig_code_reg (m : BitVec 3) (D : Regs P) : (reportConfig m D).code_reg = D.code_reg := rfl
@[simp] theorem reportConfig_emit (m : BitVec 3) (D : Regs P) : (reportConfig m D).emit = D.emit := rfl
@[simp] theorem reportConfig_fail (m : BitVec 3) (D : Regs P) : (reportConfig m D).fail = D.fail := rfl
@[simp] theorem reportConfig_fail_cause_reg (m : BitVec 3) (D : Regs P) : (reportConfig m D).fail_cause_reg = D.fail_cause_reg := rfl
@[simp] theorem reportConfig_CFG0 (m : BitVec 3) (D : Regs P) : (reportConfig m D).CFG0 = D.CFG0 := rfl
@[simp] theorem reportConfig_CFG1 (m : BitVec 3) (D : Regs P) : (reportConfig m D).CFG1 = D.CFG1 := rfl
@[simp] theorem reportConfig_CFG2 (m : BitVec 3) (D : Regs P) : (reportConfig m D).CFG2 = D.CFG2 := rfl
@[simp] theorem reportConfig_CFG3 (m : BitVec 3) (D : Regs P) : (reportConfig m D).CFG3 = D.CFG3 := rfl
@[simp] theorem reportConfig_CFG4 (m : BitVec 3) (D : Regs P) : (reportConfig m D).CFG4 = D.CFG4 := rfl
@[simp] theorem reportConfig_CFG5 (m : BitVec 3) (D : Regs P) : (reportConfig m D).CFG5 = D.CFG5 := rfl
@[simp] theorem reportConfig_CFG6 (m : BitVec 3) (D : Regs P) : (reportConfig m D).CFG6 = D.CFG6 := rfl
@[simp] theorem reportConfig_CFG7 (m : BitVec 3) (D : Regs P) : (reportConfig m D).CFG7 = D.CFG7 := rfl
@[simp] theorem reportConfig_cfg_valid (m : BitVec 3) (D : Regs P) : (reportConfig m D).cfg_valid = decide (m = 0b000#3) := rfl
@[simp] theorem reportConfig_cfg_err (m : BitVec 3) (D : Regs P) : (reportConfig m D).cfg_err = m := rfl

/-! writeConfig (R92) -/

@[simp] theorem writeConfig_fsm (c : CfgPorts P) (D : Regs P) : (writeConfig c D).fsm = D.fsm := rfl
@[simp] theorem writeConfig_cnt (c : CfgPorts P) (D : Regs P) : (writeConfig c D).cnt = D.cnt := rfl
@[simp] theorem writeConfig_edge_prev (c : CfgPorts P) (D : Regs P) : (writeConfig c D).edge_prev = D.edge_prev := rfl
@[simp] theorem writeConfig_xfer_busy (c : CfgPorts P) (D : Regs P) : (writeConfig c D).xfer_busy = D.xfer_busy := rfl
@[simp] theorem writeConfig_cancel_pending (c : CfgPorts P) (D : Regs P) : (writeConfig c D).cancel_pending = D.cancel_pending := rfl
@[simp] theorem writeConfig_ts_reg (c : CfgPorts P) (D : Regs P) : (writeConfig c D).ts_reg = D.ts_reg := rfl
@[simp] theorem writeConfig_code_reg (c : CfgPorts P) (D : Regs P) : (writeConfig c D).code_reg = D.code_reg := rfl
@[simp] theorem writeConfig_emit (c : CfgPorts P) (D : Regs P) : (writeConfig c D).emit = D.emit := rfl
@[simp] theorem writeConfig_fail (c : CfgPorts P) (D : Regs P) : (writeConfig c D).fail = D.fail := rfl
@[simp] theorem writeConfig_fail_cause_reg (c : CfgPorts P) (D : Regs P) : (writeConfig c D).fail_cause_reg = D.fail_cause_reg := rfl
@[simp] theorem writeConfig_CFG0 (c : CfgPorts P) (D : Regs P) : (writeConfig c D).CFG0 = c.cfg_edge_pin := rfl
@[simp] theorem writeConfig_CFG1 (c : CfgPorts P) (D : Regs P) : (writeConfig c D).CFG1 = c.cfg_reset_pin := rfl
@[simp] theorem writeConfig_CFG2 (c : CfgPorts P) (D : Regs P) : (writeConfig c D).CFG2 = c.cfg_hold_pin := rfl
@[simp] theorem writeConfig_CFG3 (c : CfgPorts P) (D : Regs P) : (writeConfig c D).CFG3 = c.cfg_adc_channel := rfl
@[simp] theorem writeConfig_CFG4 (c : CfgPorts P) (D : Regs P) : (writeConfig c D).CFG4 = c.cfg_codec := rfl
@[simp] theorem writeConfig_CFG5 (c : CfgPorts P) (D : Regs P) : (writeConfig c D).CFG5 = c.cfg_peak_delay := rfl
@[simp] theorem writeConfig_CFG6 (c : CfgPorts P) (D : Regs P) : (writeConfig c D).CFG6 = c.cfg_reset_settle_delay := rfl
@[simp] theorem writeConfig_CFG7 (c : CfgPorts P) (D : Regs P) : (writeConfig c D).CFG7 = c.cfg_reset_hold_duration := rfl
@[simp] theorem writeConfig_cfg_valid (c : CfgPorts P) (D : Regs P) : (writeConfig c D).cfg_valid = D.cfg_valid := rfl
@[simp] theorem writeConfig_cfg_err (c : CfgPorts P) (D : Regs P) : (writeConfig c D).cfg_err = D.cfg_err := rfl

/-! raiseAcquisitionFailure (R79) -/

@[simp] theorem raiseAcquisitionFailure_fsm (cause : BitVec P.wCause) (D : Regs P) : (raiseAcquisitionFailure cause D).fsm = D.fsm := rfl
@[simp] theorem raiseAcquisitionFailure_cnt (cause : BitVec P.wCause) (D : Regs P) : (raiseAcquisitionFailure cause D).cnt = D.cnt := rfl
@[simp] theorem raiseAcquisitionFailure_edge_prev (cause : BitVec P.wCause) (D : Regs P) : (raiseAcquisitionFailure cause D).edge_prev = D.edge_prev := rfl
@[simp] theorem raiseAcquisitionFailure_xfer_busy (cause : BitVec P.wCause) (D : Regs P) : (raiseAcquisitionFailure cause D).xfer_busy = D.xfer_busy := rfl
@[simp] theorem raiseAcquisitionFailure_cancel_pending (cause : BitVec P.wCause) (D : Regs P) : (raiseAcquisitionFailure cause D).cancel_pending = D.cancel_pending := rfl
@[simp] theorem raiseAcquisitionFailure_ts_reg (cause : BitVec P.wCause) (D : Regs P) : (raiseAcquisitionFailure cause D).ts_reg = D.ts_reg := rfl
@[simp] theorem raiseAcquisitionFailure_code_reg (cause : BitVec P.wCause) (D : Regs P) : (raiseAcquisitionFailure cause D).code_reg = D.code_reg := rfl
@[simp] theorem raiseAcquisitionFailure_emit (cause : BitVec P.wCause) (D : Regs P) : (raiseAcquisitionFailure cause D).emit = D.emit := rfl
@[simp] theorem raiseAcquisitionFailure_fail (cause : BitVec P.wCause) (D : Regs P) : (raiseAcquisitionFailure cause D).fail = true := rfl
@[simp] theorem raiseAcquisitionFailure_fail_cause_reg (cause : BitVec P.wCause) (D : Regs P) : (raiseAcquisitionFailure cause D).fail_cause_reg = cause := rfl
@[simp] theorem raiseAcquisitionFailure_CFG0 (cause : BitVec P.wCause) (D : Regs P) : (raiseAcquisitionFailure cause D).CFG0 = D.CFG0 := rfl
@[simp] theorem raiseAcquisitionFailure_CFG1 (cause : BitVec P.wCause) (D : Regs P) : (raiseAcquisitionFailure cause D).CFG1 = D.CFG1 := rfl
@[simp] theorem raiseAcquisitionFailure_CFG2 (cause : BitVec P.wCause) (D : Regs P) : (raiseAcquisitionFailure cause D).CFG2 = D.CFG2 := rfl
@[simp] theorem raiseAcquisitionFailure_CFG3 (cause : BitVec P.wCause) (D : Regs P) : (raiseAcquisitionFailure cause D).CFG3 = D.CFG3 := rfl
@[simp] theorem raiseAcquisitionFailure_CFG4 (cause : BitVec P.wCause) (D : Regs P) : (raiseAcquisitionFailure cause D).CFG4 = D.CFG4 := rfl
@[simp] theorem raiseAcquisitionFailure_CFG5 (cause : BitVec P.wCause) (D : Regs P) : (raiseAcquisitionFailure cause D).CFG5 = D.CFG5 := rfl
@[simp] theorem raiseAcquisitionFailure_CFG6 (cause : BitVec P.wCause) (D : Regs P) : (raiseAcquisitionFailure cause D).CFG6 = D.CFG6 := rfl
@[simp] theorem raiseAcquisitionFailure_CFG7 (cause : BitVec P.wCause) (D : Regs P) : (raiseAcquisitionFailure cause D).CFG7 = D.CFG7 := rfl
@[simp] theorem raiseAcquisitionFailure_cfg_valid (cause : BitVec P.wCause) (D : Regs P) : (raiseAcquisitionFailure cause D).cfg_valid = D.cfg_valid := rfl
@[simp] theorem raiseAcquisitionFailure_cfg_err (cause : BitVec P.wCause) (D : Regs P) : (raiseAcquisitionFailure cause D).cfg_err = D.cfg_err := rfl

/-! emitSample (R81) -/

@[simp] theorem emitSample_fsm (D : Regs P) : (emitSample D).fsm = D.fsm := rfl
@[simp] theorem emitSample_cnt (D : Regs P) : (emitSample D).cnt = D.cnt := rfl
@[simp] theorem emitSample_edge_prev (D : Regs P) : (emitSample D).edge_prev = D.edge_prev := rfl
@[simp] theorem emitSample_xfer_busy (D : Regs P) : (emitSample D).xfer_busy = D.xfer_busy := rfl
@[simp] theorem emitSample_cancel_pending (D : Regs P) : (emitSample D).cancel_pending = D.cancel_pending := rfl
@[simp] theorem emitSample_ts_reg (D : Regs P) : (emitSample D).ts_reg = D.ts_reg := rfl
@[simp] theorem emitSample_code_reg (D : Regs P) : (emitSample D).code_reg = D.code_reg := rfl
@[simp] theorem emitSample_emit (D : Regs P) : (emitSample D).emit = true := rfl
@[simp] theorem emitSample_fail (D : Regs P) : (emitSample D).fail = D.fail := rfl
@[simp] theorem emitSample_fail_cause_reg (D : Regs P) : (emitSample D).fail_cause_reg = D.fail_cause_reg := rfl
@[simp] theorem emitSample_CFG0 (D : Regs P) : (emitSample D).CFG0 = D.CFG0 := rfl
@[simp] theorem emitSample_CFG1 (D : Regs P) : (emitSample D).CFG1 = D.CFG1 := rfl
@[simp] theorem emitSample_CFG2 (D : Regs P) : (emitSample D).CFG2 = D.CFG2 := rfl
@[simp] theorem emitSample_CFG3 (D : Regs P) : (emitSample D).CFG3 = D.CFG3 := rfl
@[simp] theorem emitSample_CFG4 (D : Regs P) : (emitSample D).CFG4 = D.CFG4 := rfl
@[simp] theorem emitSample_CFG5 (D : Regs P) : (emitSample D).CFG5 = D.CFG5 := rfl
@[simp] theorem emitSample_CFG6 (D : Regs P) : (emitSample D).CFG6 = D.CFG6 := rfl
@[simp] theorem emitSample_CFG7 (D : Regs P) : (emitSample D).CFG7 = D.CFG7 := rfl
@[simp] theorem emitSample_cfg_valid (D : Regs P) : (emitSample D).cfg_valid = D.cfg_valid := rfl
@[simp] theorem emitSample_cfg_err (D : Regs P) : (emitSample D).cfg_err = D.cfg_err := rfl

/-! Generic.State.advance and Generic.State.withLine -/

@[simp] theorem advance_regs (s : Generic.State P) (o : Outputs P) (R : Regs P) :
    (s.advance o R).regs = R := rfl
@[simp] theorem advance_script (s : Generic.State P) (o : Outputs P) (R : Regs P) :
    (s.advance o R).script = s.script.tail := rfl
@[simp] theorem advance_tick (s : Generic.State P) (o : Outputs P) (R : Regs P) :
    (s.advance o R).tick = s.tick + 1 := rfl
@[simp] theorem advance_driven (s : Generic.State P) (o : Outputs P) (R : Regs P) :
    (s.advance o R).driven = some o := rfl
@[simp] theorem withLine_regs (s : Generic.State P) (I : Inputs P) : (s.withLine I).regs = s.regs := rfl
@[simp] theorem withLine_script (s : Generic.State P) (I : Inputs P) : (s.withLine I).script = I :: s.script.tail := rfl
@[simp] theorem withLine_tick (s : Generic.State P) (I : Inputs P) : (s.withLine I).tick = s.tick := rfl
@[simp] theorem withLine_driven (s : Generic.State P) (I : Inputs P) : (s.withLine I).driven = s.driven := rfl


/-! State.reset -/

@[simp] theorem generic_reset_regs : (Generic.State.reset P).regs = Regs.reset P := rfl
@[simp] theorem generic_reset_script : (Generic.State.reset P).script = [] := rfl
@[simp] theorem generic_reset_tick : (Generic.State.reset P).tick = 0 := rfl
@[simp] theorem generic_reset_driven : (Generic.State.reset P).driven = none := rfl
@[simp] theorem reset_regs : State.reset.regs = Regs.reset Config.params := rfl
@[simp] theorem reset_script : State.reset.script = [] := rfl
@[simp] theorem reset_tick : State.reset.tick = 0 := rfl
@[simp] theorem reset_driven : State.reset.driven = none := rfl

/-- The line placed is the line the next tick samples. -/
@[simp] theorem withLine_inputs (s : Generic.State P) (I : Inputs P) : (s.withLine I).inputs = I := rfl

/-- The input line does not depend on the registers. -/
@[simp] theorem inputs_with_regs (s : Generic.State P) (R : Regs P) :
    ({ s with regs := R } : Generic.State P).inputs = s.inputs := rfl

/-- The outputs do not depend on a pending request. -/
@[simp] theorem outputs_with_cancel_pending (S : Regs P) (b : Bool) :
    outputs { S with cancel_pending := b } = outputs S := rfl

theorem inputs_cons {s : Generic.State P} {I : Inputs P} {l : List (Inputs P)}
    (h : s.script = I :: l) : s.inputs = I := by simp [Generic.State.inputs, h]

theorem inputs_nil {s : Generic.State P} (h : s.script = []) : s.inputs = Config.freeInputs P s.tick := by
  simp [Generic.State.inputs, h]

end Sys2Proof.Machine
end

