-- ==== Sys2Proof/Laws/Ops.lean ====
section
/-! SUPPORT. One lemma per shared operation that says everything it can do; later proofs cite these and
do not unfold the operation. -/

namespace Sys2Proof.Machine

variable {P : Params}

theorem channelValid_iff {ch : Nat} : channelValid ch = true ↔ ch = 0 ∨ ch = 1 := by
  simp [channelValid]

theorem channelValid_eq_false_iff {ch : Nat} : channelValid ch = false ↔ ch ≠ 0 ∧ ch ≠ 1 := by
  simp [channelValid]

theorem cancelNow_iff {c : HostCode} {S : Regs P} :
    cancelNow c S = true ↔ S.fsm ≠ .idle ∧ (S.cancel_pending = true ∨ c = .cancel) := by
  simp [cancelNow]

/-- In IDLE no request counts (R71). -/
theorem cancelNow_idle {c : HostCode} {S : Regs P} (h : S.fsm = .idle) : cancelNow c S = false := by
  simp [cancelNow, h]

theorem rising_iff {S : Regs P} {I : Inputs P} :
    rising S I = true ↔ S.edge_prev = false ∧ I.edge_in = true := by
  simp [rising]

theorem lastTick_iff {S : Regs P} : lastTick S = true ↔ S.cnt.toNat ≤ 1 := by
  simp [lastTick]

theorem lastTick_eq_false_iff {S : Regs P} : lastTick S = false ↔ 2 ≤ S.cnt.toNat := by
  simp [lastTick]
  omega

/-- The counter goes down by one and stops at 0 (R73). -/
theorem countTick_toNat (D : Regs P) : (countTick D).cnt.toNat = D.cnt.toNat - 1 := by
  rw [countTick_cnt]
  split
  · next h => simp [h]
  · next h =>
    have hlt := D.cnt.isLt
    have hpos : 1 ≤ D.cnt.toNat := by
      rcases Nat.eq_zero_or_pos D.cnt.toNat with h0 | h0
      · exact absurd (BitVec.eq_of_toNat_eq (by simpa using h0)) h
      · exact h0
    have ho : (1#P.wDelay).toNat = 1 % 2 ^ P.wDelay := by simp
    rw [BitVec.toNat_sub, ho]
    rcases Nat.eq_zero_or_pos P.wDelay with hw | hw
    · have h2 : 2 ^ P.wDelay = 1 := by simp [hw]
      omega
    · have h1 : 1 % 2 ^ P.wDelay = 1 := Nat.mod_eq_of_lt (Nat.one_lt_two_pow (by omega))
      rw [h1]
      have : 2 ^ P.wDelay - 1 + D.cnt.toNat = (D.cnt.toNat - 1) + 2 ^ P.wDelay := by omega
      rw [this, Nat.add_mod_right, Nat.mod_eq_of_lt (by omega)]

theorem countTick_eq (D : Regs P) :
    countTick D = { D with cnt := BitVec.ofNat P.wDelay (D.cnt.toNat - 1) } := by
  have h : (countTick D).cnt = BitVec.ofNat P.wDelay (D.cnt.toNat - 1) := by
    apply BitVec.eq_of_toNat_eq
    rw [countTick_toNat, BitVec.toNat_ofNat, Nat.mod_eq_of_lt]
    have := D.cnt.isLt
    omega
  rw [← h]
  rfl

/-- `x.toNat = 0` is the test `x = 0#w` of the rules. -/
theorem toNat_eq_zero_iff {w : Nat} {x : BitVec w} : x.toNat = 0 ↔ x = 0#w := by
  constructor
  · intro h
    exact BitVec.eq_of_toNat_eq (by simpa using h)
  · rintro rfl
    simp

theorem enterPeak_cases (D : Regs P) :
    (D.CFG5 = 0#P.wDelay ∧ enterPeak D = enterHold D) ∨
      (D.CFG5 ≠ 0#P.wDelay ∧ enterPeak D = { D with fsm := .peaking, cnt := D.CFG5 }) := by
  unfold enterPeak
  split <;> simp_all

theorem enterSettle_cases (D : Regs P) :
    (D.CFG6 = 0#P.wDelay ∧ enterSettle D = enterReset D) ∨
      (D.CFG6 ≠ 0#P.wDelay ∧ enterSettle D = { D with fsm := .settle, cnt := D.CFG6 }) := by
  unfold enterSettle
  split <;> simp_all

theorem endCycle_cases (cn : Bool) (D : Regs P) :
    (cn = true ∧ endCycle cn D = { D with fsm := .idle }) ∨
      (cn = false ∧ endCycle cn D = { D with fsm := .waitEdge }) := by
  cases cn <;> simp [endCycle, goIdle]

theorem startRule_cases (D : Regs P) :
    (D.cfg_valid = true ∧ startRule D = { D with fsm := .waitEdge }) ∨
      (D.cfg_valid = false ∧ startRule D = D) := by
  unfold startRule
  cases h : D.cfg_valid <;> simp

/-- A configuration passes exactly when it is legal (R93). -/
theorem validate_eq_zero_iff {e r h : BitVec P.wPin} {ch : BitVec P.wChan} {d : BitVec P.wDelay} :
    validate e r h ch d = 0b000#3 ↔
      (ch.toNat = 0 ∨ ch.toNat = 1) ∧ d ≠ 0#P.wDelay ∧ e ≠ r ∧ e ≠ h ∧ r ≠ h := by
  unfold validate
  rcases hc : channelValid ch.toNat with _ | _ <;> rcases hd : (d == 0#P.wDelay) with _ | _ <;>
    rcases h1 : (e == r) with _ | _ <;> rcases h2 : (e == h) with _ | _ <;>
    rcases h3 : (r == h) with _ | _ <;>
    simp_all [channelValid_iff, channelValid_eq_false_iff]

/-! The next-state function, one equation per state of `fsm` (R70). -/

variable {c : HostCode} {dec : Byte → Byte → Code} {S : Regs P} {I : Inputs P}

theorem next_rst (h : I.rst = true) : next c dec S I = Regs.reset P := by simp [next, h]

theorem next_calm (h : I.rst = false) :
    next c dec S I =
      latchCancel (cancelNow c S) (stateRule c dec (cancelNow c S) S I (tickDefaults I S)) := by
  simp [next, h]

theorem stateRule_idle {cn : Bool} {D : Regs P} (h : S.fsm = .idle) :
    stateRule c dec cn S I D = idleRule c I D := by simp [stateRule, h]

theorem stateRule_waitEdge {cn : Bool} {D : Regs P} (h : S.fsm = .waitEdge) :
    stateRule c dec cn S I D = waitEdgeRule cn S I D := by simp [stateRule, h]

theorem stateRule_peaking {cn : Bool} {D : Regs P} (h : S.fsm = .peaking) :
    stateRule c dec cn S I D = peakingRule cn S D := by simp [stateRule, h]

theorem stateRule_holding {cn : Bool} {D : Regs P} (h : S.fsm = .holding) :
    stateRule c dec cn S I D = holdingRule dec cn S I D := by simp [stateRule, h]

theorem stateRule_settle {cn : Bool} {D : Regs P} (h : S.fsm = .settle) :
    stateRule c dec cn S I D = settleRule cn S D := by simp [stateRule, h]

theorem stateRule_resetPulse {cn : Bool} {D : Regs P} (h : S.fsm = .resetPulse) :
    stateRule c dec cn S I D = resetPulseRule cn S D := by simp [stateRule, h]

end Sys2Proof.Machine
end

