-- ==== Sys2Proof/Laws/Step.lean ====
section
/-! SUPPORT. What `exec` and `step` do, in one equation each: every instruction and every tick answers a
next state, and a tick is one application of `next` (R70). -/

namespace Sys2Proof.Machine

variable {P : Params}

/-- The byte of each channel, for either selector (R62, R63, R66). -/
theorem encodeCommand_zero (v : CodecSel) : encodeCommand 0 v = .ok 0x68#8 := by
  unfold encodeCommand
  split <;> decide

theorem encodeCommand_one (v : CodecSel) : encodeCommand 1 v = .ok 0x78#8 := by
  unfold encodeCommand
  split <;> decide

theorem selectedByte_channel0 {S : Regs P} (h : S.CFG3.toNat = 0) :
    selectedByte S = 0x68#8 := by
  simp [selectedByte, h, channelValid, encodeCommand_zero, commandByte]

theorem selectedByte_channel1 {S : Regs P} (h : S.CFG3.toNat = 1) :
    selectedByte S = 0x78#8 := by
  simp [selectedByte, h, channelValid, encodeCommand_one, commandByte]

/-- The registers at the end of the tick of `s` (R70). -/
def nextRegs (s : Generic.State P) : Regs P :=
  next (hostCode s.inputs) (selectedDecoder s.regs) s.regs s.inputs

/-- The host command on the port, with its operands on theirs, runs as the whole tick. -/
theorem exec_decodeHost (s : Generic.State P) :
    Generic.exec (decodeHost s.inputs.host_cmd s.inputs.cfg) s =
      .next (s.advance (outputs s.regs) (nextRegs s)) := by
  have hp : portsOfOperands P (operandsOfPorts s.inputs.cfg) = s.inputs.cfg := by
    cases h : s.inputs.cfg
    simp [portsOfOperands, operandsOfPorts]
  unfold decodeHost
  cases h : decodeHostCode s.inputs.host_cmd <;>
    simp [Generic.exec, execNop, execLoadConfig, execStart, execCancel, hostTick, nextRegs, hostCode, h,
      withCfg, hp]

/-- The command byte on xfer_tx0, read back with CFG4, runs as the whole tick. -/
theorem exec_decodeCommand {s : Generic.State P} {i : Instr} (hc : channelValid s.regs.CFG3.toNat = true)
    (h : decodeCommandByte s.regs.CFG4 (selectedByte s.regs) = .ok i) :
    Generic.exec i s = .next (s.advance (outputs s.regs) (nextRegs s)) := by
  have h68 : ¬(0x78#8 = 0x68#8) := by decide
  rcases channelValid_iff.mp hc with hz | hz
  · have hb := selectedByte_channel0 hz
    rw [hb] at h
    by_cases hv : s.regs.CFG4 = 0#1
    · simp only [decodeCommandByte, hv, if_true, Except.ok.injEq] at h
      subst h
      simp [Generic.exec, execAdcCmdCh0, commandTick, outputs, hb, nextRegs, encDefault, commandByte]
    · simp only [decodeCommandByte, hv, if_true, if_false, Except.ok.injEq] at h
      subst h
      have hl : encLegacy 0 = .ok 0x68#8 := by decide
      simp [Generic.exec, execAdcCmdCh0Legacy, commandTick, outputs, hb, nextRegs, hl, commandByte]
  · have hb := selectedByte_channel1 hz
    rw [hb] at h
    by_cases hv : s.regs.CFG4 = 0#1
    · simp only [decodeCommandByte, hv, h68, if_true, if_false, Except.ok.injEq] at h
      subst h
      simp [Generic.exec, execAdcCmdCh1, commandTick, outputs, hb, nextRegs, encDefault, commandByte]
    · simp only [decodeCommandByte, hv, h68, if_true, if_false, Except.ok.injEq] at h
      subst h
      have hl : encLegacy 1 = .ok 0x78#8 := by decide
      simp [Generic.exec, execAdcCmdCh1Legacy, commandTick, outputs, hb, nextRegs, hl, commandByte]

/-- A frame that stands answered on the receive ports runs as the whole tick. -/
theorem exec_decodeResponse {s : Generic.State P} (hd : s.inputs.xfer_done = true)
    (he : s.inputs.xfer_err = false) :
    Generic.exec (decodeResponseBytes s.regs.CFG4 s.inputs.xfer_rx0 s.inputs.xfer_rx1) s =
      .next (s.advance (outputs s.regs) (nextRegs s)) := by
  have hI : withResponse s.inputs.xfer_rx0 s.inputs.xfer_rx1 s.inputs = s.inputs := by
    cases h : s.inputs
    simp_all [withResponse]
  by_cases hv : s.regs.CFG4 = 0#1
  · have hs : selectedDecoder s.regs = decDefault := by
      funext b0 b1
      simp [selectedDecoder, decodeResponse, hv]
    simp [decodeResponseBytes, hv, Generic.exec, execAdcRspDefault, responseTick, nextRegs, hI, hs]
  · have hs : selectedDecoder s.regs = decLegacy := by
      funext b0 b1
      simp [selectedDecoder, decodeResponse, hv]
    simp [decodeResponseBytes, hv, Generic.exec, execAdcRspLegacy, responseTick, nextRegs, hI, hs]

/-- The command byte of a valid channel always decodes. -/
theorem decodeCommand_ok {s : Generic.State P} (hc : channelValid s.regs.CFG3.toNat = true) :
    ∃ i, decodeCommandByte s.regs.CFG4 (selectedByte s.regs) = .ok i := by
  rcases channelValid_iff.mp hc with hz | hz
  · rw [selectedByte_channel0 hz]
    exact ⟨_, rfl⟩
  · rw [selectedByte_channel1 hz]
    exact ⟨_, rfl⟩

/-- A step is one tick of R70: it always answers a next state, and this one. -/
theorem generic_step_eq (s : Generic.State P) :
    Generic.step s = .next (s.advance (outputs s.regs) (nextRegs s)) := by
  unfold Generic.step Generic.State.fetch Generic.State.frame
  split
  · next i hi =>
    split at hi
    · next hc =>
      simp only [issuesCommand, Bool.and_eq_true] at hc
      exact exec_decodeCommand hc.2 hi
    · split at hi
      · next hr =>
        simp only [takesResponse, Bool.and_eq_true, Bool.not_eq_true'] at hr
        simp only [decode, Except.ok.injEq] at hi
        subst hi
        exact exec_decodeResponse hr.1.2 hr.2
      · simp only [decode, Except.ok.injEq] at hi
        subst hi
        exact exec_decodeHost s
  · next e he =>
    split at he
    · next hc =>
      simp only [issuesCommand, Bool.and_eq_true] at hc
      obtain ⟨i, hi⟩ := decodeCommand_ok hc.2
      simp [decode, hi] at he
    · split at he <;> simp [decode] at he

/-- Inversion of a step: the four fields of the state it answers. -/
theorem generic_step_next {s t : Generic.State P} (h : Generic.step s = .next t) :
    t.regs = nextRegs s ∧ t.script = s.script.tail ∧ t.tick = s.tick + 1 ∧
      t.driven = some (outputs s.regs) := by
  rw [generic_step_eq] at h
  cases h
  exact ⟨rfl, rfl, rfl, rfl⟩

/-- The host command an instruction's tick is given: its own, or the one on host_cmd. -/
def tickCode (i : Instr) (s : Generic.State P) : HostCode :=
  match i with
  | .nop => .nop
  | .loadConfig _ => .loadConfig
  | .start => .start
  | .cancel => .cancel
  | .adcCmdCh0 => hostCode s.inputs
  | .adcCmdCh1 => hostCode s.inputs
  | .adcCmdCh0Legacy => hostCode s.inputs
  | .adcCmdCh1Legacy => hostCode s.inputs
  | .adcRspDefault _ _ => hostCode s.inputs
  | .adcRspLegacy _ _ => hostCode s.inputs

/-- The input line of an instruction's tick: the sampled one with the instruction's operands on it. -/
def tickInputs (i : Instr) (s : Generic.State P) : Inputs P :=
  match i with
  | .nop => s.inputs
  | .loadConfig a => withCfg a s.inputs
  | .start => s.inputs
  | .cancel => s.inputs
  | .adcCmdCh0 => s.inputs
  | .adcCmdCh1 => s.inputs
  | .adcCmdCh0Legacy => s.inputs
  | .adcCmdCh1Legacy => s.inputs
  | .adcRspDefault b0 b1 => withResponse b0 b1 s.inputs
  | .adcRspLegacy b0 b1 => withResponse b0 b1 s.inputs

/-- The decoder of an instruction's tick. -/
def tickDecoder (i : Instr) (s : Generic.State P) : Byte → Byte → Code :=
  match i with
  | .nop => selectedDecoder s.regs
  | .loadConfig _ => selectedDecoder s.regs
  | .start => selectedDecoder s.regs
  | .cancel => selectedDecoder s.regs
  | .adcCmdCh0 => selectedDecoder s.regs
  | .adcCmdCh1 => selectedDecoder s.regs
  | .adcCmdCh0Legacy => selectedDecoder s.regs
  | .adcCmdCh1Legacy => selectedDecoder s.regs
  | .adcRspDefault _ _ => decDefault
  | .adcRspLegacy _ _ => decLegacy

/-- Every instruction's meaning is one application of `next` (R70). -/
theorem generic_exec_eq (i : Instr) (s : Generic.State P) :
    ∃ o, Generic.exec i s =
      .next (s.advance o (next (tickCode i s) (tickDecoder i s) s.regs (tickInputs i s))) := by
  cases i <;> exact ⟨_, rfl⟩

/-- Inversion of an instruction. -/
theorem generic_exec_next {i : Instr} {s t : Generic.State P} (h : Generic.exec i s = .next t) :
    t.regs = next (tickCode i s) (tickDecoder i s) s.regs (tickInputs i s) ∧
      t.script = s.script.tail ∧ t.tick = s.tick + 1 := by
  obtain ⟨o, ho⟩ := generic_exec_eq i s
  rw [ho] at h
  cases h
  exact ⟨rfl, rfl, rfl⟩

/-! The fixed names are the instance at the default widths. -/

theorem exec_generic (i : Instr) (s : State) : exec i s = Generic.exec i s := by cases i <;> rfl

theorem step_generic (s : State) : step s = Generic.step s := by
  unfold step Generic.step
  cases s.fetch with
  | ok i => exact exec_generic i s
  | error e => rfl

theorem core_generic : core = Generic.machine Config.params := by
  have h : step = Generic.step := funext step_generic
  simp only [core, Generic.machine, h]
  rfl

theorem step_eq (s : State) : step s = .next (s.advance (outputs s.regs) (nextRegs s)) := by
  rw [step_generic]
  exact generic_step_eq s

theorem step_next {s t : State} (h : step s = .next t) :
    t.regs = nextRegs s ∧ t.script = s.script.tail ∧ t.tick = s.tick + 1 ∧
      t.driven = some (outputs s.regs) := by
  rw [step_generic] at h
  exact generic_step_next h

theorem exec_eq (i : Instr) (s : State) :
    ∃ o, exec i s =
      .next (s.advance o (next (tickCode i s) (tickDecoder i s) s.regs (tickInputs i s))) := by
  rw [exec_generic]
  exact generic_exec_eq i s

theorem exec_next {i : Instr} {s t : State} (h : exec i s = .next t) :
    t.regs = next (tickCode i s) (tickDecoder i s) s.regs (tickInputs i s) ∧
      t.script = s.script.tail ∧ t.tick = s.tick + 1 := by
  rw [exec_generic] at h
  exact generic_exec_next h

/-- Runs of several ticks, one tick at a time. -/
theorem runTicks_zero (s : State) : runTicks 0 s = .next s := rfl

theorem runTicks_succ (n : Nat) (s : State) :
    runTicks (n + 1) s = runTicks n (s.advance (outputs s.regs) (nextRegs s)) := by
  show Host.Core.run core (n + 1) s = _
  have h : core.step s = .next (s.advance (outputs s.regs) (nextRegs s)) := step_eq s
  simp only [Host.Core.run, h]
  rfl

/-- A run never stops (R97). -/
theorem runTicks_next (n : Nat) (s : State) : ∃ t, runTicks n s = .next t := by
  induction n generalizing s with
  | zero => exact ⟨s, rfl⟩
  | succ n ih =>
    rw [runTicks_succ]
    exact ih _

end Sys2Proof.Machine
end

