-- ==== Sys2Proof/Laws/Sequencer.lean ====
section
/-! SUPPORT. Inversion of the next-state function, one lemma per state of `fsm`: everything a tick
without `rst` can do there, guards included (41_sequencer.md R70, R74 to R81); and the two decoders bit
by bit. -/

namespace Sys2Proof.Machine

variable {P : Params} {c : HostCode} {dec : Byte → Byte → Code} {S : Regs P} {I : Inputs P}

/-- The defaults of R70 with no request left: what every honoured or request-free tick starts from. -/
def tickBase (I : Inputs P) (S : Regs P) : Regs P :=
  { S with edge_prev := I.edge_in, emit := false, fail := false, cancel_pending := false }

/-- IDLE (R74). -/
theorem next_idle_cases (hr : I.rst = false) (hf : S.fsm = .idle) :
    (c = .loadConfig ∧ next c dec S I = loadConfigRule I.cfg (tickBase I S)) ∨
      (c = .start ∧ S.cfg_valid = true ∧
        next c dec S I = { tickBase I S with fsm := .waitEdge }) ∨
      (c ≠ .loadConfig ∧ (c = .start → S.cfg_valid = false) ∧ next c dec S I = tickBase I S) := by
  rw [next_calm hr, stateRule_idle hf, cancelNow_idle hf]
  cases c
  · exact .inr (.inr ⟨by simp, by simp, rfl⟩)
  · exact .inl ⟨rfl, rfl⟩
  · cases hv : S.cfg_valid
    · refine .inr (.inr ⟨by simp, by simp, ?_⟩)
      simp [idleRule, startRule, tickDefaults, hv, latchCancel, tickBase]
    · refine .inr (.inl ⟨rfl, rfl, ?_⟩)
      simp [idleRule, startRule, tickDefaults, hv, latchCancel, tickBase]
  · exact .inr (.inr ⟨by simp, by simp, rfl⟩)

/-- WAIT_EDGE (R75). -/
theorem next_waitEdge_cases (hr : I.rst = false) (hf : S.fsm = .waitEdge) :
    (cancelNow c S = true ∧ next c dec S I = { tickBase I S with fsm := .idle }) ∨
      (cancelNow c S = false ∧ rising S I = false ∧ next c dec S I = tickBase I S) ∨
      (cancelNow c S = false ∧ rising S I = true ∧ S.CFG5 = 0#P.wDelay ∧
        next c dec S I = { tickBase I S with fsm := .holding, xfer_busy := false }) ∨
      (cancelNow c S = false ∧ rising S I = true ∧ S.CFG5 ≠ 0#P.wDelay ∧
        next c dec S I = { tickBase I S with fsm := .peaking, cnt := S.CFG5 }) := by
  rw [next_calm hr, stateRule_waitEdge hf]
  unfold waitEdgeRule
  cases hc : cancelNow c S <;> cases hx : rising S I
  · exact .inr (.inl ⟨rfl, rfl, rfl⟩)
  · rcases enterPeak_cases (tickDefaults I S) with ⟨h, e⟩ | ⟨h, e⟩
    · refine .inr (.inr (.inl ⟨rfl, rfl, h, ?_⟩))
      simp only [Bool.false_eq_true, if_false, if_true, e]
      rfl
    · refine .inr (.inr (.inr ⟨rfl, rfl, h, ?_⟩))
      simp only [Bool.false_eq_true, if_false, if_true, e]
      rfl
  · exact .inl ⟨rfl, by simp [goIdle, tickDefaults, latchCancel, tickBase]⟩
  · exact .inl ⟨rfl, by simp [goIdle, tickDefaults, latchCancel, tickBase]⟩

/-- PEAKING (R76). -/
theorem next_peaking_cases (hr : I.rst = false) (hf : S.fsm = .peaking) :
    (2 ≤ S.cnt.toNat ∧
        next c dec S I = { tickBase I S with
          cnt := BitVec.ofNat _ (S.cnt.toNat - 1), cancel_pending := cancelNow c S }) ∨
      (S.cnt.toNat ≤ 1 ∧ cancelNow c S = true ∧
        next c dec S I = { tickBase I S with cnt := 0#P.wDelay, fsm := .idle }) ∨
      (S.cnt.toNat ≤ 1 ∧ cancelNow c S = false ∧
        next c dec S I = { tickBase I S with
          cnt := 0#P.wDelay, fsm := .holding, xfer_busy := false }) := by
  rw [next_calm hr, stateRule_peaking hf]
  unfold peakingRule
  simp only [countTick_eq]
  rcases hl : lastTick S with _ | _
  · refine .inl ⟨lastTick_eq_false_iff.mp hl, ?_⟩
    simp [latchCancel, tickDefaults, tickBase, hf]
  · have h1 := lastTick_iff.mp hl
    have h0 : S.cnt.toNat - 1 = 0 := by omega
    cases hc : cancelNow c S
    · exact .inr (.inr ⟨h1, rfl, by simp [latchCancel, tickDefaults, tickBase, enterHold, h0]⟩)
    · exact .inr (.inl ⟨h1, rfl, by simp [latchCancel, tickDefaults, tickBase, goIdle, h0]⟩)

/-- SETTLE (R80). -/
theorem next_settle_cases (hr : I.rst = false) (hf : S.fsm = .settle) :
    (2 ≤ S.cnt.toNat ∧
        next c dec S I = { tickBase I S with
          cnt := BitVec.ofNat _ (S.cnt.toNat - 1), cancel_pending := cancelNow c S }) ∨
      (S.cnt.toNat ≤ 1 ∧ cancelNow c S = true ∧
        next c dec S I = { tickBase I S with cnt := 0#P.wDelay, fsm := .idle }) ∨
      (S.cnt.toNat ≤ 1 ∧ cancelNow c S = false ∧
        next c dec S I = { tickBase I S with cnt := S.CFG7, fsm := .resetPulse }) := by
  rw [next_calm hr, stateRule_settle hf]
  unfold settleRule
  simp only [countTick_eq]
  rcases hl : lastTick S with _ | _
  · refine .inl ⟨lastTick_eq_false_iff.mp hl, ?_⟩
    simp [latchCancel, tickDefaults, tickBase, hf]
  · have h1 := lastTick_iff.mp hl
    have h0 : S.cnt.toNat - 1 = 0 := by omega
    cases hc : cancelNow c S
    · exact .inr (.inr ⟨h1, rfl, by simp [latchCancel, tickDefaults, tickBase, enterReset]⟩)
    · exact .inr (.inl ⟨h1, rfl, by simp [latchCancel, tickDefaults, tickBase, goIdle, h0]⟩)

/-- RESET_PULSE (R81). -/
theorem next_resetPulse_cases (hr : I.rst = false) (hf : S.fsm = .resetPulse) :
    (2 ≤ S.cnt.toNat ∧
        next c dec S I = { tickBase I S with
          cnt := BitVec.ofNat _ (S.cnt.toNat - 1), cancel_pending := cancelNow c S }) ∨
      (S.cnt.toNat ≤ 1 ∧
        next c dec S I = { tickBase I S with
          cnt := 0#P.wDelay, emit := true, fsm := if cancelNow c S then .idle else .waitEdge }) := by
  rw [next_calm hr, stateRule_resetPulse hf]
  unfold resetPulseRule
  simp only [countTick_eq]
  rcases hl : lastTick S with _ | _
  · refine .inl ⟨lastTick_eq_false_iff.mp hl, ?_⟩
    simp [latchCancel, tickDefaults, tickBase, hf]
  · have h1 := lastTick_iff.mp hl
    have h0 : S.cnt.toNat - 1 = 0 := by omega
    refine .inr ⟨h1, ?_⟩
    cases hc : cancelNow c S <;>
      simp [latchCancel, tickDefaults, tickBase, endCycle, emitSample, goIdle, h0]

/-- HOLDING, the issue tick (R77). -/
theorem next_issue (hr : I.rst = false) (hf : S.fsm = .holding) (hb : S.xfer_busy = false) :
    next c dec S I = { tickBase I S with
      ts_reg := I.rtc_in, xfer_busy := true, cancel_pending := cancelNow c S } := by
  rw [next_calm hr, stateRule_holding hf]
  simp [holdingRule, hb, issueRule, latchCancel, tickDefaults, tickBase, hf]

/-- HOLDING with an exchange in flight (R78, R79). -/
theorem next_holding_cases (hr : I.rst = false) (hf : S.fsm = .holding) (hb : S.xfer_busy = true) :
    (I.xfer_done = false ∧
        next c dec S I = { tickBase I S with cancel_pending := cancelNow c S }) ∨
      (I.xfer_done = true ∧ I.xfer_err = true ∧
        next c dec S I = { tickBase I S with
          fail := true, fail_cause_reg := I.xfer_cause,
          fsm := if cancelNow c S then .idle else .waitEdge }) ∨
      (I.xfer_done = true ∧ I.xfer_err = false ∧ cancelNow c S = true ∧
        next c dec S I = { tickBase I S with
          code_reg := dec I.xfer_rx0 I.xfer_rx1, fsm := .idle }) ∨
      (I.xfer_done = true ∧ I.xfer_err = false ∧ cancelNow c S = false ∧ S.CFG6 ≠ 0#P.wDelay ∧
        next c dec S I = { tickBase I S with
          code_reg := dec I.xfer_rx0 I.xfer_rx1, fsm := .settle, cnt := S.CFG6 }) ∨
      (I.xfer_done = true ∧ I.xfer_err = false ∧ cancelNow c S = false ∧ S.CFG6 = 0#P.wDelay ∧
        next c dec S I = { tickBase I S with
          code_reg := dec I.xfer_rx0 I.xfer_rx1, fsm := .resetPulse, cnt := S.CFG7 }) := by
  rw [next_calm hr, stateRule_holding hf]
  unfold holdingRule
  simp only [hb, if_true]
  cases hd : I.xfer_done
  · exact .inl ⟨rfl, by simp [latchCancel, tickDefaults, tickBase, hf]⟩
  · cases he : I.xfer_err
    · cases hc : cancelNow c S
      · by_cases h6 : S.CFG6 = 0#P.wDelay
        · refine .inr (.inr (.inr (.inr ⟨rfl, rfl, rfl, h6, ?_⟩)))
          simp [successRule, enterSettle, enterReset, latchCancel, tickDefaults, tickBase, h6]
        · refine .inr (.inr (.inr (.inl ⟨rfl, rfl, rfl, h6, ?_⟩)))
          simp [successRule, enterSettle, latchCancel, tickDefaults, tickBase, h6]
      · refine .inr (.inr (.inl ⟨rfl, rfl, rfl, ?_⟩))
        simp [successRule, goIdle, latchCancel, tickDefaults, tickBase]
    · refine .inr (.inl ⟨rfl, rfl, ?_⟩)
      cases hc : cancelNow c S <;>
        simp [failureRule, endCycle, raiseAcquisitionFailure, goIdle, latchCancel, tickDefaults, tickBase]

/-- Bit i of either decoder: bit i of the second byte below 8, bits 1..0 of the first above (R55). -/
theorem dec_bits (b0 b1 : Byte) (i : Nat) (hi : i < 10) :
    (decDefault b0 b1).getLsbD i = (if i < 8 then b1.getLsbD i else b0.getLsbD (i - 8)) ∧
      (decLegacy b0 b1).getLsbD i = (if i < 8 then b1.getLsbD i else b0.getLsbD (i - 8)) := by
  have hm : ∀ j : Fin 10, (0x3FF#16).getLsbD j = true := by decide
  have hl : ∀ j : Fin 2, (0x3#16).getLsbD j = true := by decide
  have h0 := hm ⟨i, hi⟩
  constructor
  · simp only [decDefault, BitVec.getLsbD_setWidth, BitVec.getLsbD_and, BitVec.getLsbD_or,
      BitVec.getLsbD_shiftLeft]
    by_cases h8 : i < 8
    · simp [h8, hi, show i < 16 by omega, h0]
    · simp [h8, hi, show i < 16 by omega, show i - 8 < 16 by omega, h0,
        BitVec.getLsbD_of_ge b1 i (by omega)]
  · simp only [decLegacy, BitVec.getLsbD_setWidth, BitVec.getLsbD_and, BitVec.getLsbD_or,
      BitVec.getLsbD_shiftLeft]
    by_cases h8 : i < 8
    · simp [h8, hi, show i < 16 by omega]
    · have h3 := hl ⟨i - 8, by omega⟩
      simp [h8, hi, show i < 16 by omega, show i - 8 < 16 by omega, h3,
        BitVec.getLsbD_of_ge b1 i (by omega)]

end Sys2Proof.Machine
end

