-- ==== Sys2Proof/Laws/PerInstr.lean ====
section
/-! SUPPORT. The one family of statements made per instruction: the frame its encoding writes has the
fixed length of its format, so that under either codec selector it decodes (30_encoding.md R51, R60). -/

namespace Sys2Proof.Laws.EncodedLength

/-- F-HOST has no length to get wrong, F-CMD is one byte, F-RX two (R60). -/
def fixedLength {P : Params} : Frame P → Bool
  | .host _ _ => true
  | .command tx => tx.length == 1
  | .response rx => rx.length == 2

/-- The encoding has its format's length and decodes under either selector. -/
def Statement (i : Instr) : Prop :=
  ∀ P : Params, fixedLength (encode P i) = true ∧
    ∀ v : CodecSel, ∃ j, decode v (encode P i) = .ok j

theorem nop : Statement .nop := fun _ => ⟨rfl, fun _ => ⟨_, rfl⟩⟩

theorem loadConfig (a : AcqConfig) : Statement (.loadConfig a) := fun _ => ⟨rfl, fun _ => ⟨_, rfl⟩⟩

theorem start : Statement .start := fun _ => ⟨rfl, fun _ => ⟨_, rfl⟩⟩

theorem cancel : Statement .cancel := fun _ => ⟨rfl, fun _ => ⟨_, rfl⟩⟩

theorem adcCmdCh0 : Statement .adcCmdCh0 := fun _ => ⟨rfl, fun _ => ⟨_, rfl⟩⟩

theorem adcCmdCh1 : Statement .adcCmdCh1 := fun _ => ⟨rfl, fun _ => ⟨_, rfl⟩⟩

theorem adcCmdCh0Legacy : Statement .adcCmdCh0Legacy := fun _ => ⟨rfl, fun _ => ⟨_, rfl⟩⟩

theorem adcCmdCh1Legacy : Statement .adcCmdCh1Legacy := fun _ => ⟨rfl, fun _ => ⟨_, rfl⟩⟩

theorem adcRspDefault (b0 b1 : Byte) : Statement (.adcRspDefault b0 b1) :=
  fun _ => ⟨rfl, fun _ => ⟨_, rfl⟩⟩

theorem adcRspLegacy (b0 b1 : Byte) : Statement (.adcRspLegacy b0 b1) :=
  fun _ => ⟨rfl, fun _ => ⟨_, rfl⟩⟩

end Sys2Proof.Laws.EncodedLength
end

