-- ==== Sys2Proof/Tests/Slice0.lean ====
section
/-! SUPPORT. Tests. Expected values are those of spec/95_test_vectors.md and of the rules named, written
out by hand; the witnesses show that the hypotheses of the statements can be met. -/

namespace Sys2Proof.Tests

open Sys2Proof.Machine

/-! ## Helpers -/

/-- The parameters of the machine. -/
abbrev W : Params := Config.params

/-- A line with the trigger low and nothing else on the ports. -/
abbrev low : Inputs W := quietLine false

/-- A line with the trigger high. -/
abbrev high : Inputs W := quietLine true

/-- The registers in state `f` with the configuration (1, 2, 3, 0, 0, 2, 2, 3) of the vectors V1 to V10. -/
abbrev inState (f : Fsm) : Regs W :=
  { Regs.reset W with
    fsm := f, edge_prev := false, CFG0 := 1, CFG1 := 2, CFG2 := 3, CFG5 := 2, CFG6 := 2, CFG7 := 3
    cfg_valid := true }

/-- A state with these registers and input lines. -/
abbrev sys (R : Regs W) (l : List (Inputs W)) : State :=
  { regs := R, script := l, tick := 0, driven := none }

/-- The state after a next, if there is one. -/
def after? : Host.Outcome State Fault Refusal → Option State
  | .next s => some s
  | _ => none

/-- The registers after a next. -/
def regs? (o : Host.Outcome State Fault Refusal) : Option (Regs W) := (after? o).map (·.regs)

/-- The outputs of the tick that ended in a next. -/
def out? (o : Host.Outcome State Fault Refusal) : Option (Outputs W) := (after? o).bind (·.driven)

/-- The configuration of vector E8, and the bad one of program P3. -/
abbrev cfgE8 : AcqConfig := ⟨17, 27, 22, 0, 0, 20, 300, 0⟩
abbrev cfgP3 : AcqConfig := ⟨5, 5, 9, 2, 0, 0, 3, 0⟩

/-- The largest operands the ports admit. -/
abbrev cfgMax : AcqConfig := ⟨255, 255, 255, 255, 1, 4294967295, 4294967295, 4294967295⟩

/-! ## Well-formedness: one operand too wide for its port at a time (R32) -/

theorem test_wf_max : (Instr.loadConfig cfgMax).wellFormed W = true := by decide
theorem test_wf_edge_pin : (Instr.loadConfig { cfgMax with edgePin := 256 }).wellFormed W = false := by
  decide
theorem test_wf_reset_pin :
    (Instr.loadConfig { cfgMax with resetPin := 256 }).wellFormed W = false := by decide
theorem test_wf_hold_pin : (Instr.loadConfig { cfgMax with holdPin := 256 }).wellFormed W = false := by
  decide
theorem test_wf_channel :
    (Instr.loadConfig { cfgMax with adcChannel := 256 }).wellFormed W = false := by decide
theorem test_wf_codec : (Instr.loadConfig { cfgMax with codec := 2 }).wellFormed W = false := by decide
theorem test_wf_peak_delay :
    (Instr.loadConfig { cfgMax with peakDelay := 4294967296 }).wellFormed W = false := by decide
theorem test_wf_settle_delay :
    (Instr.loadConfig { cfgMax with resetSettleDelay := 4294967296 }).wellFormed W = false := by decide
theorem test_wf_reset_hold :
    (Instr.loadConfig { cfgMax with resetHoldDuration := 4294967296 }).wellFormed W = false := by
  decide

/-! ## Decoding, from the encodings of R52, R53 and R55 -/

theorem test_decode_host :
    decode (P := W) 0#1 (.host 0b00#2 (CfgPorts.zero W)) = .ok .nop ∧
    decode (P := W) 0#1 (.host 0b10#2 (CfgPorts.zero W)) = .ok .start ∧
    decode (P := W) 1#1 (.host 0b11#2 (CfgPorts.zero W)) = .ok .cancel := by decide
theorem test_decode_load_config :
    decode (P := W) 0#1
      (.host 0b01#2 ⟨17#8, 27#8, 22#8, 0#8, 0#1, 20#32, 300#32, 0#32⟩) = .ok (.loadConfig cfgE8) := by
  decide
theorem test_decode_command_default :
    decode (P := W) 0#1 (.command [0b01101000#8]) = .ok .adcCmdCh0 ∧
    decode (P := W) 0#1 (.command [0b01111000#8]) = .ok .adcCmdCh1 := by decide
theorem test_decode_command_legacy :
    decode (P := W) 1#1 (.command [0b01101000#8]) = .ok .adcCmdCh0Legacy ∧
    decode (P := W) 1#1 (.command [0b01111000#8]) = .ok .adcCmdCh1Legacy := by decide
theorem test_decode_response :
    decode (P := W) 0#1 (.response [0b00000010#8, 0b00110100#8]) = .ok (.adcRspDefault 0x02 0x34) ∧
    decode (P := W) 1#1 (.response [0b00000010#8, 0b00110100#8]) = .ok (.adcRspLegacy 0x02 0x34) := by
  decide
theorem test_decode_rejects :
    decode (P := W) 0#1 (.command [0b01101001#8]) = .error .notACommandByte ∧
    decode (P := W) 0#1 (.command [0x68, 0x00]) = .error .wrongLength ∧
    decode (P := W) 0#1 (.response [0x02]) = .error .wrongLength := by decide
theorem test_encode_words :
    encode W .start = .host 0b10#2 (CfgPorts.zero W) ∧ encode W .adcCmdCh0 = .command [0x68] ∧
    encode W .adcCmdCh1Legacy = .command [0x78] ∧
    encode W (.adcRspLegacy 0x02 0x34) = .response [0x02, 0x34] := by decide
theorem test_table_words_out_of_range :
    decodeTableWord 2 4 = none ∧ decodeTableWord 8 0x69 = none ∧ decodeTableWord 16 65536 = none := by
  decide

/-! ## The codec and the validation (95_test_vectors.md 2.1, 2.2) -/

theorem test_decoder_vectors :
    decDefault 0xFF 0xFF = 1023#10 ∧ decLegacy 0xFF 0xFF = 1023#10 ∧
    decDefault 0x04 0x00 = 0#10 ∧ decLegacy 0xFC 0x00 = 0#10 ∧
    decDefault 0x55 0xAA = 426#10 ∧ decLegacy 0x7F 0x00 = 768#10 := by decide
theorem test_encoder_vectors :
    encDefault 2 = .error .invalidChannel ∧ encLegacy 3 = .error .invalidChannel ∧
    encLegacy 1 = .ok 0x78#8 ∧ encDefault 255 = .error .invalidChannel := by decide
theorem test_validate_vectors :
    validate (P := W) 5 5 5 2 0 = 0b111#3 ∧ validate (P := W) 17 27 22 1 500 = 0b000#3 ∧
    validate (P := W) 17 27 22 0 0 = 0b010#3 ∧ validate (P := W) 1 2 1 0 1 = 0b100#3 ∧
    validate (P := W) 1 2 3 255 1 = 0b001#3 := by decide
theorem test_narrow_widths :
    validate (P := ⟨4, 4, 2, 2, 4⟩) 1 2 3 3 15 = 0b001#3 ∧
    (portsOfOperands ⟨4, 4, 2, 2, 4⟩ ⟨5, 6, 7, 4, 2, 16, 17, 31⟩).cfg_reset_hold_duration = 15#4 := by
  decide

/-! ## One step of each instruction -/

theorem test_nop_edge_to_peaking :
    regs? (exec .nop (sys (inState .waitEdge) [high])) =
      some { inState .waitEdge with fsm := .peaking, cnt := 2, edge_prev := true } := by decide
theorem test_nop_settle_to_reset_pulse :
    regs? (exec .nop (sys { inState .settle with cnt := 1 } [low])) =
      some { inState .resetPulse with cnt := 3 } := by decide
theorem test_load_config_e8 :
    (regs? (exec (.loadConfig cfgE8) (sys (Regs.reset W) [low]))).map
      (fun R => (R.cfg_err, R.cfg_valid, R.CFG0, R.CFG1, R.CFG6)) =
      some (0b010#3, false, 17#8, 27#8, 300#32) := by decide
theorem test_load_config_ignored_in_peaking :
    regs? (exec (.loadConfig cfgP3) (sys { inState .peaking with cnt := 2 } [low])) =
      some { inState .peaking with cnt := 1 } := by decide
theorem test_start_valid :
    regs? (exec .start (sys (inState .idle) [high])) =
      some { inState .waitEdge with edge_prev := true } := by decide
theorem test_start_refused :
    regs? (exec .start (sys (Regs.reset W) [low])) =
      some { Regs.reset W with edge_prev := false } := by decide
theorem test_cancel_wins_over_edge :
    regs? (exec .cancel (sys (inState .waitEdge) [high])) =
      some { inState .idle with edge_prev := true } := by decide
theorem test_cancel_at_reset_pulse_end_emits :
    regs? (exec .cancel (sys { inState .resetPulse with cnt := 1 } [low])) =
      some { inState .idle with emit := true } := by decide
theorem test_cmd_ch0 :
    (out? (exec .adcCmdCh0 (sys (inState .holding) [low]))).map
      (fun o => (o.hold_out, o.xfer_start, o.xfer_tx0, o.xfer_tx1)) =
      some (true, true, 0x68#8, 0x00#8) := by decide
theorem test_cmd_ch0_takes_timestamp :
    regs? (exec .adcCmdCh0 (sys (inState .holding) [{ low with rtc_in := 9 }])) =
      some { inState .holding with ts_reg := 9, xfer_busy := true } := by decide
theorem test_cmd_ch1 :
    (out? (exec .adcCmdCh1 (sys { inState .holding with CFG3 := 1 } [low]))).map (·.xfer_tx0) =
      some 0x78#8 := by decide
theorem test_cmd_ch0_legacy :
    (out? (exec .adcCmdCh0Legacy (sys { inState .holding with CFG4 := 1 } [low]))).map (·.xfer_tx0) =
      some 0x68#8 := by decide
theorem test_cmd_ch1_legacy :
    (out? (exec .adcCmdCh1Legacy (sys { inState .holding with CFG3 := 1, CFG4 := 1 } [low]))).map
      (·.xfer_tx0) = some 0x78#8 := by decide
theorem test_rsp_default :
    regs? (exec (.adcRspDefault 0x02 0x34) (sys { inState .holding with xfer_busy := true } [low])) =
      some { inState .settle with xfer_busy := true, code_reg := 564, cnt := 2 } := by decide
theorem test_rsp_default_cancelled :
    regs? (exec (.adcRspDefault 0x02 0x34)
        (sys { inState .holding with xfer_busy := true, cancel_pending := true } [low])) =
      some { inState .idle with xfer_busy := true, code_reg := 564 } := by decide
theorem test_rsp_legacy_no_settle :
    regs? (exec (.adcRspLegacy 0xFE 0x80)
        (sys { inState .holding with xfer_busy := true, CFG4 := 1, CFG6 := 0 } [low])) =
      some { inState .resetPulse with
        xfer_busy := true, code_reg := 640, CFG4 := 1, CFG6 := 0, cnt := 3 } := by decide
theorem test_rsp_in_issue_tick_ignored :
    regs? (exec (.adcRspLegacy 0x01 0x01) (sys (inState .holding) [low])) =
      some { inState .holding with xfer_busy := true } := by decide

/-! ## Steps -/

theorem test_step_failure_while_cancelled :
    regs? (step (sys { inState .holding with xfer_busy := true, cancel_pending := true }
        [{ low with xfer_done := true, xfer_err := true, xfer_cause := 9 }])) =
      some { inState .idle with xfer_busy := true, fail := true, fail_cause_reg := 9 } := by decide
theorem test_step_rst_in_holding :
    regs? (step (sys { inState .holding with xfer_busy := true } [{ low with rst := true }])) =
      some (Regs.reset W) := by decide
theorem test_step_invalid_channel_drives_zero :
    (out? (step (sys { inState .idle with CFG3 := 2 } [low]))).map (·.xfer_tx0) = some 0x00#8 := by
  decide
/-- The machine at other widths (R7): a START from IDLE with 4-bit delays and 2-bit channels. -/
theorem test_generic_step_narrow :
    (match Generic.step (P := ⟨4, 4, 2, 2, 4⟩)
        { regs := { Regs.reset _ with cfg_valid := true }
          script := [{ quietLine true with host_cmd := 0b10#2 }], tick := 0, driven := none } with
      | .next t => t.regs.fsm
      | _ => .idle) = .waitEdge := by decide
theorem test_step_counter_zero_is_last :
    regs? (step (sys (inState .peaking) [low])) = some (inState .holding) := by decide

/-- The tick script of R61: two lines, `edge` and `rtc` kept. -/
theorem test_script_lines :
    (scriptInputs W false 0
      [{ plainLine .start with edge := some true, rtc := some 7 }, plainLine .cancel]).map
      (fun I => (I.host_cmd, I.edge_in, I.rtc_in)) =
      [(0b10#2, true, 7#32), (0b11#2, true, 7#32)] := by decide

/-- A placed word runs as the first instruction after reset. -/
theorem test_fetch_after_reset :
    (State.reset.withFetchWord 2 0b10).fetch = .ok .start ∧
    (State.reset.withFetchWord 8 0x78).fetch = .ok .adcCmdCh1 ∧
    (State.reset.withFetchWord 16 0x0234).fetch = .ok (.adcRspDefault 0x02 0x34) := by decide

/-! ## Witnesses: the hypotheses of each statement, met by a concrete state -/

/-- Registers with the invariant, in any running state with count `n`. -/
theorem inState_inv :
    (inState .waitEdge).Inv ∧ (inState .holding).Inv ∧
    ({ inState .peaking with cnt := 2 } : Regs W).Inv ∧
    ({ inState .settle with cnt := 1 } : Regs W).Inv ∧
    ({ inState .resetPulse with cnt := 3 } : Regs W).Inv := by
  refine ⟨?_, ?_, ?_, ?_, ?_⟩ <;> constructor <;> decide

theorem witness_DecodeOfEncode :
    (Instr.loadConfig cfgMax).wellFormed W = true ∧
    (Instr.adcRspLegacy 0xFF 0xFF).wellFormed W = true := by decide
theorem witness_EncodeOfDecoded :
    decode (P := W) 0#1 (.host 0b01#2 (portsOfOperands W cfgMax)) = .ok (.loadConfig cfgMax) ∧
    decode (P := W) 1#1 (.command [0x78]) = .ok .adcCmdCh1Legacy ∧
    decode (P := W) 0#1 (.host 0b10#2 (portsOfOperands W cfgMax)) = .ok .start ∧
    (0b10#2 : BitVec 2) ≠ 0b01#2 := by decide
theorem witness_CommandByte :
    ((0x68#8).extractLsb' 5 3 = 0b011#3 ∧ (0x68#8).extractLsb' 0 4 = 0b1000#4) ∧
    ((0x78#8).extractLsb' 5 3 = 0b011#3 ∧ (0x78#8).extractLsb' 0 4 = 0b1000#4) ∧
    ¬((0x48#8).extractLsb' 5 3 = 0b011#3 ∧ (0x48#8).extractLsb' 0 4 = 0b1000#4) := by decide
theorem witness_EncoderInvalid : (2 : Nat) ≠ 0 ∧ (2 : Nat) ≠ 1 := by decide
theorem witness_EncoderRunning :
    ({ inState .peaking with cnt := 2 } : Regs W).Inv ∧ (inState .peaking).fsm ≠ .idle :=
  ⟨inState_inv.2.2.1, by decide⟩
theorem witness_ResponseFrame : (0xFE#8).extractLsb' 0 2 = (0x02#8).extractLsb' 0 2 := by decide
theorem witness_CodecSelector :
    Reference.sameButCodec
      (sys (inState .idle) [low])
      (sys { inState .idle with CFG4 := 1 } [{ low with cfg := { low.cfg with cfg_codec := 1 } }]) :=
  ⟨rfl, .cons rfl .nil, rfl, rfl⟩

theorem witness_Nop :
    (sys (inState .idle) [low]).inputs.rst = false ∧
    (sys { inState .waitEdge with cancel_pending := true } [low]).inputs.rst = false := by decide
theorem witness_LoadConfig :
    cfgMax.fits W = true ∧ (sys (inState .idle) [low]).inputs.rst = false ∧
    (inState .idle).fsm = .idle ∧ (inState .waitEdge).fsm ≠ .idle := by decide
theorem witness_Start :
    ((inState .idle).fsm = .idle ∧ (inState .idle).cfg_valid = true) ∧
    ((Regs.reset W).fsm = .idle ∧ (Regs.reset W).cfg_valid = false) ∧
    (inState .holding).fsm ≠ .idle ∧ (sys (inState .idle) [low]).inputs.rst = false := by decide
theorem witness_Cancel :
    (sys { inState .settle with cnt := 1, cancel_pending := true } [low]).inputs.rst = false ∧
    ({ inState .settle with cnt := 1, cancel_pending := true } : Regs W).cancel_pending = true ∧
    (inState .waitEdge).fsm ≠ .idle := by decide
theorem witness_Cancel_reports :
    ({ inState .resetPulse with cnt := 1 } : Regs W).cnt.toNat ≤ 1 ∧
    (sys { inState .holding with xfer_busy := true }
      [{ low with xfer_done := true, xfer_err := true, xfer_cause := 9 }]).inputs.xfer_err = true ∧
    ({ inState .holding with xfer_busy := true } : Regs W).xfer_busy = true := by decide
theorem witness_CommandRow :
    (sys (inState .holding) [low]).inputs.rst = false ∧ (inState .holding).fsm = .holding ∧
    (inState .holding).xfer_busy = false := by decide

/-- HOLDING with an exchange in flight, with a settle delay, without one, and cancelled. -/
abbrev inFlight : Regs W := { inState .holding with xfer_busy := true }

theorem witness_ResponseRow :
    (Reference.cancelNow { inFlight with cancel_pending := true } low = true) ∧
    (Reference.cancelNow inFlight low = false ∧ inFlight.CFG6.toNat ≠ 0) ∧
    (Reference.cancelNow { inFlight with CFG6 := 0 } low = false ∧
      ({ inFlight with CFG6 := 0 } : Regs W).CFG6.toNat = 0) ∧
    (564#10 = BitVec.ofNat 10 ((((0x02#8).toNat <<< 8) ||| (0x34#8).toNat) &&& 0x3FF)) := by decide
theorem witness_StrayResponse :
    ¬((inState .holding).fsm = .holding ∧ (inState .holding).xfer_busy = true) ∧
    ¬((inState .waitEdge).fsm = .holding ∧ (inState .waitEdge).xfer_busy = true) := by decide

theorem witness_StepRuns :
    decode 0#1 (sys (inState .waitEdge) [low]).frame = .ok .nop ∧
    decode 0#1 (sys (inState .holding) [low]).frame = .ok .adcCmdCh0 ∧
    decode 1#1 (sys { inFlight with CFG4 := 1 } [withResponse 0x02 0x34 low]).frame =
      .ok (.adcRspLegacy 0x02 0x34) := by decide
theorem witness_Presents :
    Reference.presents (sys (inState .waitEdge) [low]) (.command [0x68]) ∧
    decode (P := W) 0#1 (.command [0x68]) = .ok .adcCmdCh0 ∧
    Reference.presents (sys (inState .waitEdge) [withResponse 0xFF 0xFF low])
      (.response [0xFF, 0xFF]) ∧
    decode (P := W) 0#1 (.response [0xFF, 0xFF]) = .ok (.adcRspDefault 0xFF 0xFF) :=
  ⟨.inr (.inl ⟨by decide, by decide⟩), by decide, .inr (.inr ⟨rfl, rfl, rfl⟩), by decide⟩
theorem witness_PlacedWord :
    decodeTableWord 2 0b11 = some .cancel ∧ decodeTableWord 16 65535 = some (.adcRspDefault 0xFF 0xFF) := by
  decide
theorem witness_EveryWidth : (Regs.reset ⟨1, 1, 1, 2, 1⟩).Inv := by constructor <;> decide

theorem witness_WaitEdge :
    (Reference.cancelNow { inState .waitEdge with cancel_pending := true } high = true) ∧
    (Reference.cancelNow (inState .waitEdge) high = false ∧
      (inState .waitEdge).edge_prev = false ∧ high.edge_in = true ∧
      (inState .waitEdge).CFG5.toNat ≠ 0 ∧
      ({ inState .waitEdge with CFG5 := 0 } : Regs W).CFG5.toNat = 0) ∧
    ¬({ inState .waitEdge with edge_prev := true } : Regs W).edge_prev = false ∧
    (sys (inState .waitEdge) [high]).inputs.rst = false := by decide
theorem witness_DelayTicks :
    (2 ≤ ({ inState .peaking with cnt := 2 } : Regs W).cnt.toNat) ∧
    (({ inState .settle with cnt := 1 } : Regs W).cnt.toNat ≤ 1 ∧
      Reference.cancelNow { inState .settle with cnt := 1 } low = false) ∧
    (({ inState .peaking with cnt := 0 } : Regs W).cnt.toNat ≤ 1 ∧
      Reference.cancelNow { inState .peaking with cancel_pending := true } low = true) ∧
    (sys { inState .resetPulse with cnt := 1 } [low]).inputs.rst = false := by decide
theorem witness_HoldingIssue :
    (sys { inState .holding with CFG3 := 1 } [low]).inputs.rst = false ∧
    ({ inState .holding with CFG3 := 1 } : Regs W).CFG3.toNat = 1 ∧
    (inState .holding).CFG3.toNat = 0 := by decide
theorem witness_HoldingWaitAndSuccess :
    (sys inFlight [low]).inputs.xfer_done = false ∧
    (sys inFlight [withResponse 0x02 0x34 low]).inputs.xfer_done = true ∧
    (sys inFlight [withResponse 0x02 0x34 low]).inputs.xfer_err = false ∧
    inFlight.fsm = .holding ∧ inFlight.xfer_busy = true := by decide

/-- An answer with an error. -/
abbrev errLine : Inputs W := { low with xfer_done := true, xfer_err := true, xfer_cause := 5 }

theorem witness_HoldingFailure :
    (sys inFlight [errLine]).inputs.xfer_done = true ∧ (sys inFlight [errLine]).inputs.xfer_err = true ∧
    (sys inFlight [errLine]).inputs.rst = false ∧ inFlight.xfer_busy = true := by decide
theorem witness_FsmMoves :
    (sys (inState .waitEdge) [high]).inputs.rst = false ∧
    (sys (inState .waitEdge) [{ high with rst := true }]).inputs.rst = true := by decide
theorem witness_Honoured :
    (Reference.cancelNow { inState .waitEdge with cancel_pending := true } low = true ∧
      Reference.honouringPoint { inState .waitEdge with cancel_pending := true } low = true) ∧
    (Reference.cancelNow { inState .peaking with cnt := 2, cancel_pending := true } low = true ∧
      Reference.honouringPoint { inState .peaking with cnt := 2, cancel_pending := true } low =
        false) := by decide
theorem witness_EdgesLost :
    low.rst = false ∧ (inState .peaking).fsm ≠ .waitEdge := by decide
theorem witness_Unsampled :
    Reference.sameSampled (inState .waitEdge) low
      { errLine with cfg := { low.cfg with cfg_edge_pin := 9 }, rtc_in := 8, xfer_rx0 := 7 } := by
  unfold Reference.sameSampled
  decide
theorem witness_NoCommandByte :
    ({ Regs.reset W with CFG3 := 2 } : Regs W).Inv ∧
    (outputs ({ Regs.reset W with CFG3 := 2 } : Regs W)).xfer_tx0 = 0x00#8 := by
  constructor
  · constructor <;> decide
  · decide
theorem witness_ResetTick : (sys inFlight [{ high with rst := true }]).inputs.rst = true := by decide

theorem witness_StepKeeps :
    ({ inState .peaking with cnt := 2 } : Regs W).Inv ∧
    ∃ t, step (sys { inState .peaking with cnt := 2 } [low]) = .next t :=
  ⟨inState_inv.2.2.1, _, step_eq _⟩
theorem witness_LineSafety :
    ∃ t, step (sys { inState .resetPulse with cnt := 1 } [low]) = .next t ∧
      t.regs.fsm ≠ .resetPulse :=
  ⟨_, step_eq _, by decide⟩
theorem witness_LineSafety_hold :
    ∃ t, step (sys inFlight [errLine]) = .next t ∧ t.regs.fsm ≠ .holding :=
  ⟨_, step_eq _, by decide⟩
theorem witness_HoldBrackets :
    ∃ t, step (sys { inState .peaking with cnt := 1 } [low]) = .next t ∧ t.regs.fsm = .holding :=
  ⟨_, step_eq _, by decide⟩
theorem witness_Pulses :
    ∃ t, step (sys inFlight [errLine]) = .next t ∧ t.regs.fail = true :=
  ⟨_, step_eq _, by decide⟩
theorem witness_OnlyCancellation :
    (inState .waitEdge).Inv ∧ (sys (inState .waitEdge) [low]).inputs.rst = false ∧
    (inState .waitEdge).fsm ≠ .idle := ⟨inState_inv.1, by decide, by decide⟩
theorem witness_Verdict :
    Reference.load (Regs.reset W) { low with host_cmd := 0b01 } = true ∧
    ((inState .idle).cfg_err = 0b000#3 ↔ (inState .idle).cfg_valid = true) := by decide
theorem witness_Frame :
    Reference.load (inState .waitEdge) (Reference.lineOf .nop (sys (inState .waitEdge) [low])) = false ∧
    Reference.issue (inState .waitEdge) = false ∧
    Reference.success (inState .waitEdge) low = false ∧
    Reference.failure (inState .waitEdge) low = false ∧
    Reference.endPulse (inState .waitEdge) = false ∧
    Reference.startHold (inState .waitEdge) low = false ∧
    Reference.startPeak (inState .waitEdge) low = false ∧
    Reference.startSettle (inState .waitEdge) low = false ∧
    Reference.startReset (inState .waitEdge) low = false ∧
    Reference.inDelay (inState .waitEdge) = false ∧
    Reference.start (Regs.reset W) { low with host_cmd := 0b10 } = false ∧
    Reference.moves (inState .waitEdge) low = false := by decide
theorem witness_Locked :
    ∀ k u, k < 1 → runTicks k (sys (inState .waitEdge) [high]) = .next u →
      u.regs.fsm ≠ .idle ∧ u.inputs.rst = false := by
  intro k u hk h
  obtain rfl : k = 0 := by omega
  cases h
  decide

theorem witness_DelayLasts :
    Reference.inDelay { inState .resetPulse with cnt := 1 } = true ∧
    (sys { inState .resetPulse with cnt := 1 } [low]).regs.cnt.toNat = 1 ∧
    1 ≤ (sys { inState .resetPulse with cnt := 1 } [low]).script.length ∧
    (∀ I ∈ (sys { inState .resetPulse with cnt := 1 } [low]).script.take 1, I.rst = false) ∧
    Reference.inDelay { inState .peaking with cnt := 2 } = true := by decide

/-- The shortest cycle: no peak delay, no settle delay, a pulse of one tick, an answer at once (V13). -/
abbrev shortest : Regs W := { inState .waitEdge with CFG5 := 0, CFG6 := 0, CFG7 := 1 }

theorem witness_WholeCycle :
    (sys shortest [high, high, withResponse 3 255 high, high]).script =
      high :: ([] ++ high :: ([] ++ withResponse 3 255 high :: ([] ++ ([high] ++ [])))) ∧
    (∀ I ∈ high :: ([] ++ high :: ([] ++ withResponse 3 255 high :: ([] ++ [high]))), calmLine I) ∧
    shortest.fsm = .waitEdge ∧ shortest.cancel_pending = false ∧ shortest.edge_prev = false ∧
    high.edge_in = true ∧ (withResponse 3 255 high).xfer_done = true ∧
    (withResponse 3 255 high).xfer_err = false ∧ 0 = shortest.CFG5.toNat ∧
    0 = shortest.CFG6.toNat ∧ [high].length = shortest.CFG7.toNat ∧ 1 ≤ shortest.CFG7.toNat := by
  unfold calmLine
  decide
theorem witness_Stalled :
    (∀ I ∈ (sys (inState .waitEdge) [low, low]).script.take 2, calmLine I) ∧
    Reference.neverRises (inState .waitEdge).edge_prev
      ((sys (inState .waitEdge) [low, low]).script.take 2) ∧
    2 ≤ (sys (inState .waitEdge) [low, low]).script.length :=
  ⟨by unfold calmLine; decide, ⟨.inr rfl, .inr rfl, trivial⟩, by decide⟩
theorem witness_Unanswered :
    (inState .holding).fsm = .holding ∧
    (∀ I ∈ (sys (inState .holding) [errLine, low]).script.take 2, I.rst = false) ∧
    (∀ k I, (sys (inState .holding) [errLine, low]).script[k]? = some I → k < 2 →
      (inState .holding).xfer_busy = true ∨ 1 ≤ k → I.xfer_done = false) := by
  refine ⟨rfl, by decide, ?_⟩
  intro k I h hk hb
  obtain rfl | rfl : k = 0 ∨ k = 1 := by omega
  · exact absurd hb (by decide)
  · cases h
    rfl
theorem witness_PendingCancellation :
    Reference.inDelay { inState .settle with cnt := 1, cancel_pending := true } = true ∧
    (sys { inState .settle with cnt := 1, cancel_pending := true } [low]).regs.cnt.toNat = 1 ∧
    (∀ I ∈ (sys { inState .settle with cnt := 1, cancel_pending := true } [low]).script.take 1,
      I.rst = false) := by decide
theorem witness_FailuresApart :
    ∃ t u v, step (sys inFlight [errLine]) = .next t ∧ step t = .next u ∧ step u = .next v ∧
      (outputs t.regs).fail_valid = true :=
  ⟨_, _, _, step_eq _, step_eq _, step_eq _, by decide⟩
theorem witness_StartSees :
    (sys (inState .idle) [{ low with host_cmd := 0b01, cfg := portsOfOperands W ⟨1, 2, 3, 0, 0, 0, 0, 1⟩ },
      { low with host_cmd := 0b10 }]).regs.fsm = .idle ∧
    Reference.portMask (portsOfOperands W ⟨1, 2, 3, 0, 0, 0, 0, 1⟩) = 0b000#3 ∧
    Reference.portMask (portsOfOperands W cfgP3) ≠ 0b000#3 := by decide

end Sys2Proof.Tests
end

section
/-! The events of the register reference in the terms of the machine: its conditions and values are the
model's own, and each event belongs to the states of `fsm` its rule names (41_sequencer.md R71 to R81,
42_host_control.md R92 to R94). -/

namespace Sys2Proof.Machine

variable {P : Params} {S : Regs P} {I : Inputs P}

/-! The host command on the port (R52). -/

theorem decodeHostCode_eq_loadConfig_iff :
    ∀ w : BitVec 2, decodeHostCode w = .loadConfig ↔ w = 0b01#2 := by decide

theorem decodeHostCode_eq_start_iff : ∀ w : BitVec 2, decodeHostCode w = .start ↔ w = 0b10#2 := by
  decide

theorem decodeHostCode_eq_cancel_iff : ∀ w : BitVec 2, decodeHostCode w = .cancel ↔ w = 0b11#2 := by
  decide

theorem hostCode_eq_loadConfig_iff : hostCode I = .loadConfig ↔ I.host_cmd = 0b01#2 :=
  decodeHostCode_eq_loadConfig_iff I.host_cmd

theorem hostCode_eq_start_iff : hostCode I = .start ↔ I.host_cmd = 0b10#2 :=
  decodeHostCode_eq_start_iff I.host_cmd

theorem reference_cancelNow_eq : Reference.cancelNow S I = cancelNow (hostCode I) S := by
  simp [Reference.cancelNow, cancelNow, hostCode, decodeHostCode_eq_cancel_iff]

/-! The values: the decoded code (R55, R64, R65) and the validation mask (R93). -/

theorem decDefault_eq_codeOf : decDefault = Reference.codeOf := by
  funext b0 b1
  refine BitVec.eq_of_getLsbD_eq fun i hi => ?_
  rw [(dec_bits b0 b1 i hi).1, Reference.codeOf, BitVec.getLsbD_append]
  split
  · rfl
  · simp
    omega

theorem decLegacy_eq_codeOf : decLegacy = Reference.codeOf := by
  rw [← decDefault_eq_codeOf]
  funext b0 b1
  refine BitVec.eq_of_getLsbD_eq fun i hi => ?_
  rw [(dec_bits b0 b1 i hi).1, (dec_bits b0 b1 i hi).2]

/-- Both selectors give the one layout of R55. -/
theorem selectedDecoder_eq_codeOf (S : Regs P) : selectedDecoder S = Reference.codeOf := by
  funext b0 b1
  unfold selectedDecoder decodeResponse
  split
  · rw [decDefault_eq_codeOf]
  · rw [decLegacy_eq_codeOf]

theorem validate_eq_mask (e r h : BitVec P.wPin) (ch : BitVec P.wChan) (d : BitVec P.wDelay) :
    validate e r h ch d = Reference.mask e.toNat r.toNat h.toNat ch.toNat d.toNat := by
  have hpins : (e == r || e == h || r == h) = decide (e = r ∨ e = h ∨ r = h) := by
    rw [Bool.eq_iff_iff]
    simp [or_assoc]
  have hzero : (d == 0#P.wDelay) = decide (d = 0#P.wDelay) := rfl
  have hchan : channelValid ch.toNat = decide (ch.toNat = 0 ∨ ch.toNat = 1) := by
    rw [Bool.eq_iff_iff]
    simp [channelValid]
  simp only [validate, Reference.mask, BitVec.toNat_inj, toNat_eq_zero_iff (x := d), hpins, hzero, hchan]
  by_cases hp : e = r ∨ e = h ∨ r = h <;> by_cases hd : d = 0#P.wDelay <;>
    by_cases hc : ch.toNat = 0 ∨ ch.toNat = 1 <;> simp only [hp, hd, hc] <;> rfl

theorem validatePorts_eq_portMask (c : CfgPorts P) : validatePorts c = Reference.portMask c :=
  validate_eq_mask ..

/-! The last tick of a delay (R73). -/

@[simp] theorem last_eq_true (h : S.cnt.toNat ≤ 1) : Reference.last S = true := decide_eq_true h

@[simp] theorem last_eq_false (h : 2 ≤ S.cnt.toNat) : Reference.last S = false :=
  decide_eq_false (by omega)

/-! Where an event cannot take place. -/

@[simp] theorem load_eq_false (h : S.fsm ≠ .idle) : Reference.load S I = false := by
  simp [Reference.load, h]

@[simp] theorem start_eq_false (h : S.fsm ≠ .idle) : Reference.start S I = false := by
  simp [Reference.start, h]

@[simp] theorem honoured_eq_false (h : S.fsm = .idle) : Reference.honoured S I = false := by
  simp [Reference.honoured, Reference.cancelNow, h]

@[simp] theorem edgeTaken_eq_false (h : S.fsm ≠ .waitEdge) : Reference.edgeTaken S I = false := by
  simp [Reference.edgeTaken, h]

@[simp] theorem startPeak_eq_false (h : S.fsm ≠ .waitEdge) : Reference.startPeak S I = false := by
  simp [Reference.startPeak, h]

@[simp] theorem startHold_eq_false (hw : S.fsm ≠ .waitEdge) (hp : S.fsm ≠ .peaking) :
    Reference.startHold S I = false := by
  simp [Reference.startHold, hw, hp]

@[simp] theorem issue_eq_false (h : S.fsm ≠ .holding) : Reference.issue S = false := by
  simp [Reference.issue, h]

@[simp] theorem complete_eq_false (h : S.fsm ≠ .holding) : Reference.complete S I = false := by
  simp [Reference.complete, h]

@[simp] theorem success_eq_false (h : S.fsm ≠ .holding) : Reference.success S I = false := by
  simp [Reference.success, h]

@[simp] theorem failure_eq_false (h : S.fsm ≠ .holding) : Reference.failure S I = false := by
  simp [Reference.failure, h]

@[simp] theorem startSettle_eq_false (h : S.fsm ≠ .holding) : Reference.startSettle S I = false := by
  simp [Reference.startSettle, h]

@[simp] theorem startReset_eq_false (hh : S.fsm ≠ .holding) (hs : S.fsm ≠ .settle) :
    Reference.startReset S I = false := by
  simp [Reference.startReset, hh, hs]

@[simp] theorem endPulse_eq_false (h : S.fsm ≠ .resetPulse) : Reference.endPulse S = false := by
  simp [Reference.endPulse, h]

end Sys2Proof.Machine
end

section
/-! The next-state function, written state by state, gives every register the value of its own rule
(R70 against R14 to R31): one lemma per state of `fsm`, case by case of that state's inversion. -/

namespace Sys2Proof.Machine

variable {P : Params} {S : Regs P} {I : Inputs P}

theorem next_eq_reference_of_idle (hr : I.rst = false) (hf : S.fsm = .idle) :
    next (hostCode I) Reference.codeOf S I = Reference.nextRegs S I := by
  have hcn := cancelNow_idle (c := hostCode I) hf
  obtain ⟨hl, e⟩ | ⟨hs, hv, e⟩ | ⟨hl, hs, e⟩ :=
    next_idle_cases (c := hostCode I) (dec := Reference.codeOf) hr hf
  · rw [hostCode_eq_loadConfig_iff] at hl
    simp [e, Reference.nextRegs, Reference.nextFsm, Reference.load, Reference.start,
      Reference.inDelay, reference_cancelNow_eq, hcn, hr, hf, hl, tickBase, loadConfigRule,
      reportConfig, writeConfig, validatePorts_eq_portMask]
  · rw [hostCode_eq_start_iff] at hs
    simp [e, Reference.nextRegs, Reference.nextFsm, Reference.load, Reference.start,
      Reference.inDelay, reference_cancelNow_eq, hcn, hr, hf, hs, hv, tickBase]
  · rw [ne_eq, hostCode_eq_loadConfig_iff] at hl
    rw [hostCode_eq_start_iff] at hs
    have hstart : Reference.start S I = false := by simpa [Reference.start, hf] using hs
    simp [e, Reference.nextRegs, Reference.nextFsm, Reference.load, hstart, Reference.inDelay,
      reference_cancelNow_eq, hcn, hr, hf, hl, tickBase]

theorem next_eq_reference_of_waitEdge (hr : I.rst = false) (hf : S.fsm = .waitEdge) :
    next (hostCode I) Reference.codeOf S I = Reference.nextRegs S I := by
  have hrise : (!S.edge_prev && I.edge_in) = rising S I := rfl
  obtain ⟨hc, e⟩ | ⟨hc, hx, e⟩ | ⟨hc, hx, h5, e⟩ | ⟨hc, hx, h5, e⟩ :=
    next_waitEdge_cases (c := hostCode I) (dec := Reference.codeOf) hr hf
  all_goals
    rw [e]
    clear e
    simp [Reference.nextRegs, Reference.nextFsm, Reference.honoured, Reference.honouringPoint,
      Reference.edgeTaken, Reference.startPeak, Reference.startHold, Reference.inDelay,
      reference_cancelNow_eq, toNat_eq_zero_iff, tickBase, *]

theorem next_eq_reference_of_peaking (hr : I.rst = false) (hf : S.fsm = .peaking) :
    next (hostCode I) Reference.codeOf S I = Reference.nextRegs S I := by
  obtain ⟨hn, e⟩ | ⟨hn, hc, e⟩ | ⟨hn, hc, e⟩ :=
    next_peaking_cases (c := hostCode I) (dec := Reference.codeOf) hr hf
  all_goals
    rw [e]
    clear e
    simp [Reference.nextRegs, Reference.nextFsm, Reference.honoured, Reference.honouringPoint,
      Reference.startHold, Reference.inDelay, reference_cancelNow_eq, tickBase, *]

theorem next_eq_reference_of_settle (hr : I.rst = false) (hf : S.fsm = .settle) :
    next (hostCode I) Reference.codeOf S I = Reference.nextRegs S I := by
  obtain ⟨hn, e⟩ | ⟨hn, hc, e⟩ | ⟨hn, hc, e⟩ :=
    next_settle_cases (c := hostCode I) (dec := Reference.codeOf) hr hf
  all_goals
    rw [e]
    clear e
    simp [Reference.nextRegs, Reference.nextFsm, Reference.honoured, Reference.honouringPoint,
      Reference.startReset, Reference.inDelay, reference_cancelNow_eq, tickBase, *]

theorem next_eq_reference_of_resetPulse (hr : I.rst = false) (hf : S.fsm = .resetPulse) :
    next (hostCode I) Reference.codeOf S I = Reference.nextRegs S I := by
  obtain ⟨hn, e⟩ | ⟨hn, e⟩ :=
    next_resetPulse_cases (c := hostCode I) (dec := Reference.codeOf) hr hf
  all_goals
    rw [e]
    clear e
    simp [Reference.nextRegs, Reference.nextFsm, Reference.honoured, Reference.honouringPoint,
      Reference.endPulse, Reference.inDelay, reference_cancelNow_eq, tickBase, *]

theorem next_eq_reference_of_holding (hr : I.rst = false) (hf : S.fsm = .holding) :
    next (hostCode I) Reference.codeOf S I = Reference.nextRegs S I := by
  cases hb : S.xfer_busy
  · rw [next_issue hr hf hb]
    simp [Reference.nextRegs, Reference.nextFsm, Reference.honoured, Reference.honouringPoint,
      Reference.issue, Reference.complete, Reference.success, Reference.failure, Reference.startSettle,
      Reference.startReset, Reference.inDelay, reference_cancelNow_eq, tickBase, *]
  · obtain ⟨hd, e⟩ | ⟨hd, he, e⟩ | ⟨hd, he, hc, e⟩ | ⟨hd, he, hc, h6, e⟩ | ⟨hd, he, hc, h6, e⟩ :=
      next_holding_cases (c := hostCode I) (dec := Reference.codeOf) hr hf hb
    all_goals
      rw [e]
      clear e
      simp [Reference.nextRegs, Reference.nextFsm, Reference.honoured, Reference.honouringPoint,
        Reference.issue, Reference.complete, Reference.success, Reference.failure, Reference.startSettle,
        Reference.startReset, Reference.inDelay, reference_cancelNow_eq, toNat_eq_zero_iff, tickBase, *]

/-- Every register's next value is the one of its own rule (R70; R14 to R31, R34). -/
theorem next_eq_reference (S : Regs P) (I : Inputs P) :
    next (hostCode I) Reference.codeOf S I = Reference.nextRegs S I := by
  cases hr : I.rst
  · cases hf : S.fsm with
    | idle => exact next_eq_reference_of_idle hr hf
    | waitEdge => exact next_eq_reference_of_waitEdge hr hf
    | peaking => exact next_eq_reference_of_peaking hr hf
    | holding => exact next_eq_reference_of_holding hr hf
    | settle => exact next_eq_reference_of_settle hr hf
    | resetPulse => exact next_eq_reference_of_resetPulse hr hf
  · rw [next_rst hr]
    simp [Reference.nextRegs, hr]

/-! The tick of a step and of an instruction (R9, R70). -/

theorem nextRegs_eq_reference (s : Generic.State P) :
    nextRegs s = Reference.nextRegs s.regs s.inputs := by
  rw [nextRegs, selectedDecoder_eq_codeOf, next_eq_reference]

theorem tickDecoder_eq_codeOf (i : Instr) (s : Generic.State P) :
    tickDecoder i s = Reference.codeOf := by
  cases i <;>
    simp only [tickDecoder, selectedDecoder_eq_codeOf, decDefault_eq_codeOf, decLegacy_eq_codeOf]

/-- Given its command, `next` does not read host_cmd: an instruction's tick is that of its line. -/
theorem next_tick_eq_next_lineOf (i : Instr) (s : Generic.State P) (dec : Byte → Byte → Code) :
    next (tickCode i s) dec s.regs (tickInputs i s) =
      next (hostCode (Reference.lineOf i s)) dec s.regs (Reference.lineOf i s) := by
  cases i <;> rfl

/-- An instruction's outputs are those of S_t, with its own byte on xfer_tx0 (R82, R53). -/
theorem generic_exec_eq_advance (i : Instr) (s : Generic.State P) :
    Generic.exec i s = .next (s.advance { outputs s.regs with xfer_tx0 := Reference.byteOf i s }
      (next (tickCode i s) (tickDecoder i s) s.regs (tickInputs i s))) := by
  cases i <;> rfl

theorem generic_exec_eq_reference (i : Instr) (s : Generic.State P) :
    Generic.exec i s = .next
      (s.advance { outputs s.regs with xfer_tx0 := Reference.byteOf i s }
        (Reference.nextRegs s.regs (Reference.lineOf i s))) := by
  rw [generic_exec_eq_advance, tickDecoder_eq_codeOf, next_tick_eq_next_lineOf, next_eq_reference]

theorem generic_step_eq_reference (s : Generic.State P) :
    Generic.step s = .next (Reference.after s (Reference.nextRegs s.regs s.inputs)) := by
  rw [generic_step_eq, nextRegs_eq_reference]
  rfl

end Sys2Proof.Machine
end

section
/-! The invariant of R35 is kept by every tick, whatever the host command and the response decoder: the
configuration is locked while running (R23), the counter fits its state (R35 (d), R15), no request is left in
IDLE (R18) and the two pulses exclude each other (R88). -/

namespace Sys2Proof.Machine

variable {P : Params} {c : HostCode} {dec : Byte → Byte → Code} {S T : Regs P} {I : Inputs P}

/-- What R35 (d) and R15 say of the counter, by the state of `fsm`. -/
def Regs.countFits (S : Regs P) : Prop :=
  match S.fsm with
  | .idle => S.cnt.toNat = 0
  | .waitEdge => S.cnt.toNat = 0
  | .peaking => 1 ≤ S.cnt.toNat ∧ S.cnt.toNat ≤ S.CFG5.toNat
  | .holding => S.cnt.toNat = 0
  | .settle => 1 ≤ S.cnt.toNat ∧ S.cnt.toNat ≤ S.CFG6.toNat
  | .resetPulse => 1 ≤ S.cnt.toNat ∧ S.cnt.toNat ≤ S.CFG7.toNat

theorem countFits_iff : S.countFits ↔
    (S.fsm = .peaking → 1 ≤ S.cnt.toNat ∧ S.cnt.toNat ≤ S.CFG5.toNat) ∧
    (S.fsm = .settle → 1 ≤ S.cnt.toNat ∧ S.cnt.toNat ≤ S.CFG6.toNat) ∧
    (S.fsm = .resetPulse → 1 ≤ S.cnt.toNat ∧ S.cnt.toNat ≤ S.CFG7.toNat) ∧
    (S.fsm = .idle ∨ S.fsm = .waitEdge ∨ S.fsm = .holding → S.cnt.toNat = 0) := by
  unfold Regs.countFits
  cases S.fsm <;> simp

theorem Regs.Inv.countFits (h : S.Inv) : S.countFits :=
  countFits_iff.mpr ⟨h.peaking, h.settle, h.resetPulse, h.counter⟩

theorem reset_inv (P : Params) : (Regs.reset P).Inv := by
  constructor <;> simp [Regs.reset]

theorem next_cancel_pending_of_idle (h : (next c dec S I).fsm = .idle) :
    (next c dec S I).cancel_pending = false := by
  cases hr : I.rst
  · rw [next_calm hr] at h ⊢
    rw [latchCancel_fsm] at h
    simp [h]
  · rw [next_rst hr]
    rfl

/-- While running the configuration and its verdict are locked (R23, R48). -/
theorem next_sameConfig (hr : I.rst = false) (hf : S.fsm ≠ .idle) :
    Reference.sameConfig S (next c dec S I) := by
  cases hs : S.fsm with
  | idle => exact absurd hs hf
  | waitEdge =>
    obtain ⟨-, e⟩ | ⟨-, -, e⟩ | ⟨-, -, -, e⟩ | ⟨-, -, -, e⟩ :=
      next_waitEdge_cases (c := c) (dec := dec) hr hs <;>
      simp [e, Reference.sameConfig, tickBase]
  | peaking =>
    obtain ⟨-, e⟩ | ⟨-, -, e⟩ | ⟨-, -, e⟩ := next_peaking_cases (c := c) (dec := dec) hr hs <;>
      simp [e, Reference.sameConfig, tickBase]
  | holding =>
    cases hb : S.xfer_busy
    · simp [next_issue hr hs hb, Reference.sameConfig, tickBase]
    · obtain ⟨-, e⟩ | ⟨-, -, e⟩ | ⟨-, -, -, e⟩ | ⟨-, -, -, -, e⟩ | ⟨-, -, -, -, e⟩ :=
        next_holding_cases (c := c) (dec := dec) hr hs hb <;>
        simp [e, Reference.sameConfig, tickBase]
  | settle =>
    obtain ⟨-, e⟩ | ⟨-, -, e⟩ | ⟨-, -, e⟩ := next_settle_cases (c := c) (dec := dec) hr hs <;>
      simp [e, Reference.sameConfig, tickBase]
  | resetPulse =>
    obtain ⟨-, e⟩ | ⟨-, e⟩ := next_resetPulse_cases (c := c) (dec := dec) hr hs <;>
      simp [e, Reference.sameConfig, tickBase]

/-- A Sample comes out of RESET_PULSE and a failure report out of HOLDING, so never both (R88). -/
theorem next_oneReport (hr : I.rst = false) :
    ¬((next c dec S I).emit = true ∧ (next c dec S I).fail = true) := by
  cases hs : S.fsm with
  | idle =>
    obtain ⟨-, e⟩ | ⟨-, -, e⟩ | ⟨-, -, e⟩ := next_idle_cases (c := c) (dec := dec) hr hs <;>
      simp [e, loadConfigRule, tickBase]
  | waitEdge =>
    obtain ⟨-, e⟩ | ⟨-, -, e⟩ | ⟨-, -, -, e⟩ | ⟨-, -, -, e⟩ :=
      next_waitEdge_cases (c := c) (dec := dec) hr hs <;>
      simp [e, tickBase]
  | peaking =>
    obtain ⟨-, e⟩ | ⟨-, -, e⟩ | ⟨-, -, e⟩ := next_peaking_cases (c := c) (dec := dec) hr hs <;>
      simp [e, tickBase]
  | holding =>
    cases hb : S.xfer_busy
    · simp [next_issue hr hs hb, tickBase]
    · obtain ⟨-, e⟩ | ⟨-, -, e⟩ | ⟨-, -, -, e⟩ | ⟨-, -, -, -, e⟩ | ⟨-, -, -, -, e⟩ :=
        next_holding_cases (c := c) (dec := dec) hr hs hb <;>
        simp [e, tickBase]
  | settle =>
    obtain ⟨-, e⟩ | ⟨-, -, e⟩ | ⟨-, -, e⟩ := next_settle_cases (c := c) (dec := dec) hr hs <;>
      simp [e, tickBase]
  | resetPulse =>
    obtain ⟨-, e⟩ | ⟨-, e⟩ := next_resetPulse_cases (c := c) (dec := dec) hr hs <;>
      simp [e, tickBase]

theorem one_le_toNat {w : Nat} {x : BitVec w} (h : x ≠ 0#w) : 1 ≤ x.toNat :=
  Nat.one_le_iff_ne_zero.mpr fun h0 => h (toNat_eq_zero_iff.mp h0)

/-- A count of at least 2 stays within any bound on it when it goes down by one (R73). -/
theorem countDown_fits {w : Nat} {x : BitVec w} {b : Nat} (h2 : 2 ≤ x.toNat) (hb : x.toNat ≤ b) :
    1 ≤ (BitVec.ofNat w (x.toNat - 1)).toNat ∧ (BitVec.ofNat w (x.toNat - 1)).toNat ≤ b := by
  have hlt := x.isLt
  rw [BitVec.toNat_ofNat, Nat.mod_eq_of_lt (by omega)]
  omega

/-- A delay state is entered with its own delay, which is not 0, and left with the count at 0. -/
theorem next_countFits (hr : I.rst = false) (h : S.Inv) : (next c dec S I).countFits := by
  cases hs : S.fsm with
  | idle =>
    have h0 := h.counter (.inl hs)
    obtain ⟨-, e⟩ | ⟨-, -, e⟩ | ⟨-, -, e⟩ := next_idle_cases (c := c) (dec := dec) hr hs <;>
      simp [e, Regs.countFits, loadConfigRule, tickBase, hs, h0]
  | waitEdge =>
    have h0 := h.counter (.inr (.inl hs))
    obtain ⟨-, e⟩ | ⟨-, -, e⟩ | ⟨-, -, -, e⟩ | ⟨-, -, h5, e⟩ :=
      next_waitEdge_cases (c := c) (dec := dec) hr hs
    · simp [e, Regs.countFits, tickBase, h0]
    · simp [e, Regs.countFits, tickBase, hs, h0]
    · simp [e, Regs.countFits, tickBase, h0]
    · simpa [e, Regs.countFits, tickBase] using one_le_toNat h5
  | peaking =>
    obtain ⟨h2, e⟩ | ⟨-, -, e⟩ | ⟨-, -, e⟩ := next_peaking_cases (c := c) (dec := dec) hr hs
    · simpa only [e, Regs.countFits, tickBase, hs] using countDown_fits h2 (h.peaking hs).2
    · simp [e, Regs.countFits]
    · simp [e, Regs.countFits]
  | holding =>
    have h0 := h.counter (.inr (.inr hs))
    have h7 := (h.legal (h.running (by simp [hs]))).2.1
    cases hb : S.xfer_busy
    · simp [next_issue hr hs hb, Regs.countFits, tickBase, hs, h0]
    · obtain ⟨-, e⟩ | ⟨-, -, e⟩ | ⟨-, -, -, e⟩ | ⟨-, -, -, h6, e⟩ | ⟨-, -, -, -, e⟩ :=
        next_holding_cases (c := c) (dec := dec) hr hs hb
      · simp [e, Regs.countFits, tickBase, hs, h0]
      · cases hc : cancelNow c S <;> simp [e, Regs.countFits, tickBase, hc, h0]
      · simp [e, Regs.countFits, tickBase, h0]
      · simpa [e, Regs.countFits, tickBase] using one_le_toNat h6
      · simpa [e, Regs.countFits, tickBase] using h7
  | settle =>
    have h7 := (h.legal (h.running (by simp [hs]))).2.1
    obtain ⟨h2, e⟩ | ⟨-, -, e⟩ | ⟨-, -, e⟩ := next_settle_cases (c := c) (dec := dec) hr hs
    · simpa only [e, Regs.countFits, tickBase, hs] using countDown_fits h2 (h.settle hs).2
    · simp [e, Regs.countFits]
    · simpa [e, Regs.countFits, tickBase] using h7
  | resetPulse =>
    obtain ⟨h2, e⟩ | ⟨-, e⟩ := next_resetPulse_cases (c := c) (dec := dec) hr hs
    · simpa only [e, Regs.countFits, tickBase, hs] using countDown_fits h2 (h.resetPulse hs).2
    · cases hc : cancelNow c S <;> simp [e, Regs.countFits, hc]

/-- A tick that keeps a configuration in force keeps what the invariant says of it. -/
theorem Regs.Inv.of_sameConfig (h : S.Inv) (hcfg : Reference.sameConfig S T)
    (hrun : T.fsm ≠ .idle → S.cfg_valid = true) (hreq : T.fsm = .idle → T.cancel_pending = false)
    (hcnt : T.countFits) (hone : ¬(T.emit = true ∧ T.fail = true)) : T.Inv := by
  obtain ⟨h0, h1, h2, h3, h4, h5, h6, h7, hvalid, herr⟩ := hcfg
  obtain ⟨hpeak, hsettle, hpulse, hzero⟩ := countFits_iff.mp hcnt
  have hlegal : T.cfg_valid = true → T.configLegal := by
    simpa only [Regs.configLegal, h0, h1, h2, h3, h7, hvalid] using h.legal
  exact ⟨fun hf => hvalid.trans (hrun hf), hlegal, by simpa only [hvalid, herr] using h.noError, hreq,
    hpeak, hsettle, hpulse, hzero, hone⟩

/-- LOAD_CONFIG in IDLE: the verdict it writes is that of the registers it writes (R92, R93). -/
theorem loadConfigRule_legal (p : CfgPorts P) (D : Regs P)
    (h : (loadConfigRule p D).cfg_valid = true) : (loadConfigRule p D).configLegal := by
  have hv : validatePorts p = 0b000#3 := by simpa [loadConfigRule] using h
  obtain ⟨hch, hd, hpins⟩ := validate_eq_zero_iff.mp hv
  exact ⟨hch, one_le_toNat hd, hpins⟩

/-- Every tick keeps the invariant of R35. -/
theorem next_keeps_inv (c : HostCode) (dec : Byte → Byte → Code) (I : Inputs P) (h : S.Inv) :
    (next c dec S I).Inv := by
  cases hr : I.rst
  · have hreq := next_cancel_pending_of_idle (c := c) (dec := dec) (S := S) (I := I)
    have hcnt := next_countFits (c := c) (dec := dec) hr h
    have hone := next_oneReport (c := c) (dec := dec) (S := S) hr
    by_cases hf : S.fsm = .idle
    · obtain ⟨-, e⟩ | ⟨-, hv, e⟩ | ⟨-, -, e⟩ := next_idle_cases (c := c) (dec := dec) hr hf
      · rw [e] at hreq hcnt hone ⊢
        obtain ⟨hpeak, hsettle, hpulse, hzero⟩ := countFits_iff.mp hcnt
        exact ⟨by simp [loadConfigRule, tickBase, hf], loadConfigRule_legal _ _,
          by simp [loadConfigRule], hreq, hpeak, hsettle, hpulse, hzero, hone⟩
      · exact h.of_sameConfig (by simp [e, Reference.sameConfig, tickBase]) (fun _ => hv) hreq hcnt hone
      · exact h.of_sameConfig (by simp [e, Reference.sameConfig, tickBase])
          (by simp [e, tickBase, hf]) hreq hcnt hone
    · exact h.of_sameConfig (next_sameConfig hr hf) (fun _ => h.running hf) hreq hcnt hone
  · rw [next_rst hr]
    exact reset_inv P

end Sys2Proof.Machine
end

section
/-! The statements of 00_scope.md. -/

namespace Sys2Proof.Machine

/-- Settles O26: the refinement of the register rules and the invariant, at every width, and the
machine at the defaults. -/
theorem registerRulesHoldAtEveryWidth : Obligations.RegisterRulesHoldAtEveryWidth := by
  refine ⟨fun P S I => ⟨?_, fun c dec h => next_keeps_inv c dec I h⟩,
    fun P s => ⟨generic_step_eq_reference s, fun i => generic_exec_eq_reference i s⟩,
    reset_inv, fun s => ⟨(step_generic s).symm, fun i => (exec_generic i s).symm⟩, core_generic.symm⟩
  rw [selectedDecoder_eq_codeOf, next_eq_reference]

/-- Settles O21: the step runs the instruction its fetch answers, and nothing else. -/
theorem stepRunsTheDecodedInstruction : Obligations.StepRunsTheDecodedInstruction := by
  intro s i h
  have hfetch : s.fetch = .ok i := h
  rw [step, hfetch]

end Sys2Proof.Machine
end

section
/-! The next-value equations of the register reference: each register's value in a tick without `rst`
(10_state.md R14 to R23, R30, R31), and the moves of `fsm` from each state. -/

namespace Sys2Proof.Reference

open Sys2Proof.Machine

variable {P : Params} {S T U : Regs P} {I : Inputs P}

theorem nextRegs_rst (h : I.rst = true) : nextRegs S I = Regs.reset P := by simp [nextRegs, h]

@[simp] theorem nextRegs_fsm (h : I.rst = false) : (nextRegs S I).fsm = nextFsm S I := by
  simp [nextRegs, h]

@[simp] theorem nextRegs_edge_prev (h : I.rst = false) : (nextRegs S I).edge_prev = I.edge_in := by
  simp [nextRegs, h]

@[simp] theorem nextRegs_xfer_busy (h : I.rst = false) :
    (nextRegs S I).xfer_busy =
      if startHold S I then false else if issue S then true else S.xfer_busy := by
  simp [nextRegs, h]

@[simp] theorem nextRegs_cancel_pending (h : I.rst = false) :
    (nextRegs S I).cancel_pending = (cancelNow S I && decide (nextFsm S I ≠ .idle)) := by
  simp [nextRegs, h]

@[simp] theorem nextRegs_ts_reg (h : I.rst = false) :
    (nextRegs S I).ts_reg = if issue S then I.rtc_in else S.ts_reg := by
  simp [nextRegs, h]

@[simp] theorem nextRegs_code_reg (h : I.rst = false) :
    (nextRegs S I).code_reg =
      if success S I then codeOf I.xfer_rx0 I.xfer_rx1 else S.code_reg := by
  simp [nextRegs, h]

@[simp] theorem nextRegs_emit (h : I.rst = false) : (nextRegs S I).emit = endPulse S := by
  simp [nextRegs, h]

@[simp] theorem nextRegs_fail (h : I.rst = false) : (nextRegs S I).fail = failure S I := by
  simp [nextRegs, h]

@[simp] theorem nextRegs_fail_cause_reg (h : I.rst = false) :
    (nextRegs S I).fail_cause_reg = if failure S I then I.xfer_cause else S.fail_cause_reg := by
  simp [nextRegs, h]

@[simp] theorem nextRegs_cfg_valid (h : I.rst = false) :
    (nextRegs S I).cfg_valid =
      if load S I then decide (portMask I.cfg = 0b000#3) else S.cfg_valid := by
  simp [nextRegs, h]

@[simp] theorem nextRegs_cfg_err (h : I.rst = false) :
    (nextRegs S I).cfg_err = if load S I then portMask I.cfg else S.cfg_err := by
  simp [nextRegs, h]

/-- The counter is written on entering a delay state and while in one (R15, R73). -/
theorem nextRegs_cnt_of_not_delay (h : I.rst = false) (hp : startPeak S I = false)
    (hs : startSettle S I = false) (hx : startReset S I = false) (hd : inDelay S = false) :
    (nextRegs S I).cnt = S.cnt := by
  simp [nextRegs, h, hp, hs, hx, hd]

/-- The configuration and its verdict are written by LOAD_CONFIG alone (R23, R30, R31). -/
theorem nextRegs_sameConfig (h : I.rst = false) (hl : load S I = false) :
    sameConfig S (nextRegs S I) := by
  simp [sameConfig, nextRegs, h, hl]

theorem sameConfig_trans (hST : sameConfig S T) (hTU : sameConfig T U) : sameConfig S U := by
  obtain ⟨h0, h1, h2, h3, h4, h5, h6, h7, hvalid, herr⟩ := hST
  simpa only [sameConfig, h0, h1, h2, h3, h4, h5, h6, h7, hvalid, herr] using hTU

/-! The moves of `fsm` (R74 to R81). -/

theorem nextFsm_idle (h : S.fsm = .idle) :
    nextFsm S I = if start S I then .waitEdge else .idle := by
  simp [nextFsm, h]

theorem nextFsm_waitEdge (h : S.fsm = .waitEdge) :
    nextFsm S I = if honoured S I then .idle else if startPeak S I then .peaking
      else if startHold S I then .holding else .waitEdge := by
  simp [nextFsm, h]

theorem nextFsm_peaking (h : S.fsm = .peaking) :
    nextFsm S I = if honoured S I then .idle else if startHold S I then .holding else .peaking := by
  simp [nextFsm, h]

theorem nextFsm_holding (h : S.fsm = .holding) :
    nextFsm S I = if honoured S I then .idle else if failure S I then .waitEdge
      else if startSettle S I then .settle else if startReset S I then .resetPulse else .holding := by
  simp [nextFsm, h]

theorem nextFsm_settle (h : S.fsm = .settle) :
    nextFsm S I = if honoured S I then .idle else if startReset S I then .resetPulse
      else .settle := by
  simp [nextFsm, h]

theorem nextFsm_resetPulse (h : S.fsm = .resetPulse) :
    nextFsm S I = if honoured S I then .idle else if endPulse S then .waitEdge
      else .resetPulse := by
  simp [nextFsm, h]

theorem nextFsm_mem_successors (S : Regs P) (I : Inputs P) : nextFsm S I ∈ successors S.fsm := by
  cases h : S.fsm with
  | idle => rw [nextFsm_idle h]; split_ifs <;> simp [successors]
  | waitEdge => rw [nextFsm_waitEdge h]; split_ifs <;> simp [successors]
  | peaking => rw [nextFsm_peaking h]; split_ifs <;> simp [successors]
  | holding => rw [nextFsm_holding h]; split_ifs <;> simp [successors]
  | settle => rw [nextFsm_settle h]; split_ifs <;> simp [successors]
  | resetPulse => rw [nextFsm_resetPulse h]; split_ifs <;> simp [successors]

theorem nextFsm_of_not_moves (h : moves S I = false) : nextFsm S I = S.fsm := by
  simp only [moves, Bool.or_eq_false_iff] at h
  simp [nextFsm, h]

/-! The pulses' causes, state and inputs written out (R81, R79). -/

theorem endPulse_iff : endPulse S = true ↔ S.fsm = .resetPulse ∧ S.cnt.toNat ≤ 1 := by
  simp [endPulse, last]

theorem failure_iff : failure S I = true ↔
    S.fsm = .holding ∧ S.xfer_busy = true ∧ I.xfer_done = true ∧ I.xfer_err = true := by
  simp [failure, complete, and_assoc]

end Sys2Proof.Reference
end

section
/-! What a tick reads: the edge detector's operands in WAIT_EDGE alone (10_state.md R16), and each port in
the ticks R32 names. -/

namespace Sys2Proof.Reference

open Sys2Proof.Machine

variable {P : Params} {S : Regs P} {I J : Inputs P}

/-- Outside WAIT_EDGE the edge detector's two operands reach edge_prev alone (R16, R72). -/
theorem nextRegs_with_edge (hr : I.rst = false) (hf : S.fsm ≠ .waitEdge) (b e : Bool) :
    nextRegs { S with edge_prev := b } { I with edge_in := e } =
      { nextRegs S I with edge_prev := e } := by
  have hedge : edgeTaken { S with edge_prev := b } { I with edge_in := e } = edgeTaken S I :=
    (edgeTaken_eq_false (S := { S with edge_prev := b }) hf).trans (edgeTaken_eq_false hf).symm
  have hpeak : startPeak { S with edge_prev := b } { I with edge_in := e } = startPeak S I := by
    rw [startPeak, hedge]
    rfl
  have hhold : startHold { S with edge_prev := b } { I with edge_in := e } = startHold S I := by
    rw [startHold, hedge]
    rfl
  have hfsm : nextFsm { S with edge_prev := b } { I with edge_in := e } = nextFsm S I := by
    rw [nextFsm, hpeak, hhold]
    rfl
  have hn : ¬I.rst = true := by simp [hr]
  rw [nextRegs, nextRegs, if_neg hn, if_neg hn, hpeak, hhold, hfsm]
  rfl

/-! Two lines that agree on the sampled ports give the same events (R32). -/

theorem cancelNow_eq_of_sameSampled (h : sameSampled S I J) : cancelNow S I = cancelNow S J := by
  obtain ⟨-, -, hcmd, -⟩ := h
  rw [cancelNow, hcmd]
  rfl

theorem load_eq_of_sameSampled (h : sameSampled S I J) : load S I = load S J := by
  obtain ⟨-, -, hcmd, -⟩ := h
  rw [load, hcmd]
  rfl

theorem start_eq_of_sameSampled (h : sameSampled S I J) : start S I = start S J := by
  obtain ⟨-, -, hcmd, -⟩ := h
  rw [start, hcmd]
  rfl

theorem edgeTaken_eq_of_sameSampled (h : sameSampled S I J) : edgeTaken S I = edgeTaken S J := by
  have hcn := cancelNow_eq_of_sameSampled h
  obtain ⟨-, hedge, -⟩ := h
  rw [edgeTaken, hcn, hedge]
  rfl

/-- xfer_done is sampled while an exchange is in flight; elsewhere nothing completes (R78, R79). -/
theorem complete_eq_of_sameSampled (h : sameSampled S I J) : complete S I = complete S J := by
  obtain ⟨-, -, -, -, -, hdone, -⟩ := h
  by_cases hb : S.fsm = .holding ∧ S.xfer_busy = true
  · rw [complete, hdone hb]
    rfl
  · have hbusy : (decide (S.fsm = .holding) && S.xfer_busy) = false := by simpa using hb
    simp [complete, hbusy]

theorem success_eq_of_sameSampled (h : sameSampled S I J) : success S I = success S J := by
  have hc := complete_eq_of_sameSampled h
  obtain ⟨-, -, -, -, -, -, herr, -⟩ := h
  cases hI : complete S I
  · simp [success, ← hc, hI]
  · simp [success, ← hc, herr hI]

theorem failure_eq_of_sameSampled (h : sameSampled S I J) : failure S I = failure S J := by
  have hc := complete_eq_of_sameSampled h
  obtain ⟨-, -, -, -, -, -, herr, -⟩ := h
  cases hI : complete S I
  · simp [failure, ← hc, hI]
  · simp [failure, ← hc, herr hI]

theorem startPeak_eq_of_sameSampled (h : sameSampled S I J) : startPeak S I = startPeak S J := by
  simp only [startPeak, edgeTaken_eq_of_sameSampled h]

theorem startHold_eq_of_sameSampled (h : sameSampled S I J) : startHold S I = startHold S J := by
  simp only [startHold, edgeTaken_eq_of_sameSampled h, cancelNow_eq_of_sameSampled h]

theorem startSettle_eq_of_sameSampled (h : sameSampled S I J) : startSettle S I = startSettle S J := by
  simp only [startSettle, success_eq_of_sameSampled h, cancelNow_eq_of_sameSampled h]

theorem startReset_eq_of_sameSampled (h : sameSampled S I J) : startReset S I = startReset S J := by
  simp only [startReset, success_eq_of_sameSampled h, cancelNow_eq_of_sameSampled h]

theorem honoured_eq_of_sameSampled (h : sameSampled S I J) : honoured S I = honoured S J := by
  simp only [honoured, honouringPoint, cancelNow_eq_of_sameSampled h, complete_eq_of_sameSampled h]

theorem nextFsm_eq_of_sameSampled (h : sameSampled S I J) : nextFsm S I = nextFsm S J := by
  unfold nextFsm
  rw [honoured_eq_of_sameSampled h, start_eq_of_sameSampled h, failure_eq_of_sameSampled h,
    startPeak_eq_of_sameSampled h, startHold_eq_of_sameSampled h, startSettle_eq_of_sameSampled h,
    startReset_eq_of_sameSampled h]

/-- The same events, and the same value on each port that an event reads (R32). -/
theorem nextRegs_eq_of_sameSampled (h : sameSampled S I J) : nextRegs S I = nextRegs S J := by
  have hload := load_eq_of_sameSampled h
  have hsuccess := success_eq_of_sameSampled h
  have hfailure := failure_eq_of_sameSampled h
  have hfsm := nextFsm_eq_of_sameSampled h
  have hpeak := startPeak_eq_of_sameSampled h
  have hsettle := startSettle_eq_of_sameSampled h
  have hreset := startReset_eq_of_sameSampled h
  have hhold := startHold_eq_of_sameSampled h
  have hcn := cancelNow_eq_of_sameSampled h
  obtain ⟨hrst, hedge, -, hcfg, hrtc, -, -, hrx, hcause⟩ := h
  rw [hload] at hcfg
  rw [hsuccess] at hrx
  rw [hfailure] at hcause
  have hcode (hs : success S J = true) :
      codeOf I.xfer_rx0 I.xfer_rx1 = codeOf J.xfer_rx0 J.xfer_rx1 := by
    obtain ⟨h0, h1⟩ := hrx hs
    rw [h0, h1]
  unfold nextRegs
  rw [hrst, hfsm, hpeak, hsettle, hreset, hhold, hcn, hedge, hload, hsuccess, hfailure,
    ite_congr rfl hrtc fun _ => rfl, ite_congr rfl hcode fun _ => rfl,
    ite_congr rfl hcause fun _ => rfl]
  cases hl : load S J
  · rfl
  · rw [hcfg hl]

end Sys2Proof.Reference
end

section
/-! A step and an instruction at the default widths in the terms of the register reference, the lines of
an instruction's tick, and the safety of the output equations (R9, R82, R89). -/

namespace Sys2Proof.Machine

variable {P : Params}

theorem step_eq_reference (s : State) :
    step s = .next (Reference.after s (Reference.nextRegs s.regs s.inputs)) := by
  rw [step_generic, generic_step_eq_reference]

theorem step_next_regs {s t : State} (h : step s = .next t) :
    t.regs = Reference.nextRegs s.regs s.inputs := by
  obtain ⟨hregs, -⟩ := step_next h
  rw [hregs, nextRegs_eq_reference]

theorem exec_eq_reference (i : Instr) (s : State) :
    exec i s = .next (s.advance { outputs s.regs with xfer_tx0 := Reference.byteOf i s }
      (Reference.nextRegs s.regs (Reference.lineOf i s))) := by
  rw [exec_generic, generic_exec_eq_reference]

theorem exec_next_regs {i : Instr} {s t : State} (h : exec i s = .next t) :
    t.regs = Reference.nextRegs s.regs (Reference.lineOf i s) := by
  rw [exec_eq_reference] at h
  cases h
  rfl

@[simp] theorem lineOf_rst (i : Instr) (s : Generic.State P) :
    (Reference.lineOf i s).rst = s.inputs.rst := by cases i <;> rfl

@[simp] theorem lineOf_edge_in (i : Instr) (s : Generic.State P) :
    (Reference.lineOf i s).edge_in = s.inputs.edge_in := by cases i <;> rfl

/-- The two reserved codes stand for no state (R14). -/
theorem code_ne_reserved (f : Fsm) : f.code ≠ 0b110#3 ∧ f.code ≠ 0b111#3 := by
  cases f <;> decide

/-- Each line is high in one state alone, and neither of the two is IDLE or WAIT_EDGE (R82). -/
theorem outputs_linesSafe (S : Regs P) : linesSafe (outputs S) := by
  simp only [linesSafe, outputs, outputsWith]
  cases S.fsm <;> decide

theorem outputs_hold_out_eq_false {S : Regs P} (h : S.fsm ≠ .holding) :
    (outputs S).hold_out = false := decide_eq_false h

theorem outputs_reset_out_eq_false {S : Regs P} (h : S.fsm ≠ .resetPulse) :
    (outputs S).reset_out = false := decide_eq_false h

/-- RESET_PULSE is followed by itself, IDLE or WAIT_EDGE, never by HOLDING (R81, R114). -/
theorem nextRegs_fsm_ne_holding_of_resetPulse {S : Regs P} {I : Inputs P} (h : S.fsm = .resetPulse) :
    (Reference.nextRegs S I).fsm ≠ .holding := by
  cases hr : I.rst
  · rw [Reference.nextRegs_fsm hr, Reference.nextFsm_resetPulse h]
    split_ifs <;> decide
  · simp [Reference.nextRegs_rst hr, Regs.reset]

end Sys2Proof.Machine
end

section
/-! The statements of 10_state.md. -/

namespace Sys2Proof.Machine

/-- Settles O42: a step is one application of `next`, which keeps the invariant. -/
theorem stepKeepsTheReachabilityFacts : Obligations.StepKeepsTheReachabilityFacts := by
  intro s t hinv h
  obtain ⟨hregs, -⟩ := step_next h
  rw [hregs]
  exact next_keeps_inv _ _ _ hinv

/-- Settles O24: the step and the register reference agree state by state. -/
theorem stepMeetsEveryRegisterRule : Obligations.StepMeetsEveryRegisterRule := step_eq_reference

/-- Settles O25: an instruction's tick is that of the line that carries its word. -/
theorem everyInstructionMeetsTheRegisterRules : Obligations.EveryInstructionMeetsTheRegisterRules :=
  exec_eq_reference

/-- Settles O35: the moves of `fsm` are those of its next-value equation, state by state. -/
theorem fsmMovesByTheTransitionRules : Obligations.FsmMovesByTheTransitionRules := by
  refine ⟨by decide, fun s => ⟨_, step_eq_reference s, rfl, (code_ne_reserved _).1,
    (code_ne_reserved _).2, fun hr => ?_, fun hr => ?_⟩⟩
  · show (Reference.nextRegs s.regs s.inputs).fsm ∈ _
    rw [Reference.nextRegs_fsm hr]
    exact Reference.nextFsm_mem_successors _ _
  · show (Reference.nextRegs s.regs s.inputs).fsm = _
    rw [Reference.nextRegs_rst hr]
    rfl

/-- Settles O37: outside WAIT_EDGE the edge detector's operands reach edge_prev alone. -/
theorem edgesOutsideWaitEdgeAreLost : Obligations.EdgesOutsideWaitEdgeAreLost := by
  refine ⟨fun s t hr h => ?_, fun s I l e hr hf => ⟨_, _, step_eq_reference _, step_eq_reference _,
    Reference.nextRegs_edge_prev hr, Reference.nextRegs_with_edge hr hf _ e⟩⟩
  rw [step_next_regs h, Reference.nextRegs_edge_prev hr]

/-- Settles O38: the next registers read the sampled ports alone. -/
theorem unsampledInputsHaveNoEffect : Obligations.UnsampledInputsHaveNoEffect := by
  intro s I J l h
  rw [step_eq_reference, step_eq_reference]
  show Host.Outcome.next (Reference.after _ (Reference.nextRegs s.regs I)) = _
  rw [Reference.nextRegs_eq_of_sameSampled h]
  rfl

/-- Settles O44: the output equations are safe in every state, and no move leads from RESET_PULSE to
HOLDING. -/
theorem outputLinesAreSafe : Obligations.OutputLinesAreSafe := by
  intro s t h
  obtain ⟨-, -, -, hdriven⟩ := step_next h
  refine ⟨⟨_, hdriven, outputs_linesSafe _⟩, outputs_linesSafe _,
    fun _ hleft => outputs_hold_out_eq_false hleft,
    fun hf hleft => ⟨outputs_reset_out_eq_false hleft, outputs_hold_out_eq_false ?_⟩⟩
  rw [step_next_regs h]
  exact nextRegs_fsm_ne_holding_of_resetPulse hf

/-- Settles O46: emit and fail take the values of the two events, and a reset tick clears both. -/
theorem pulsesFollowTheirCausesByOneTick : Obligations.PulsesFollowTheirCausesByOneTick := by
  intro s t h
  rw [step_next_regs h]
  cases hr : s.inputs.rst
  · simp only [Reference.nextRegs_emit hr, Reference.nextRegs_fail hr,
      Reference.nextRegs_fail_cause_reg hr]
    exact ⟨by simp [Reference.endPulse_iff], by simp [Reference.failure_iff], fun hf => if_pos hf,
      fun _ hf => if_neg (by simp [hf]), Reference.nextRegs_emit hr, Reference.nextRegs_fail hr,
      Reference.nextRegs_fail_cause_reg hr⟩
  · rw [Reference.nextRegs_rst hr]
    simp [Regs.reset, outputs, outputsWith]

/-- Settles O48: LOAD_CONFIG writes the verdict that its report gives, and no other tick writes either. -/
theorem verdictAndReportAgreeOnceLoaded : Obligations.VerdictAndReportAgreeOnceLoaded := by
  intro s t hr h hagree
  rw [step_next_regs h, Reference.nextRegs_cfg_err hr, Reference.nextRegs_cfg_valid hr]
  cases hl : Reference.load s.regs s.inputs
  · simpa [hl] using hagree
  · simp

/-- Settles O49: each register by its own next-value equation, for the line of the instruction's tick. -/
theorem frameOfEveryInstruction : Obligations.FrameOfEveryInstruction := by
  intro i s t hrst h
  have hr : (Reference.lineOf i s).rst = false := by rw [lineOf_rst, hrst]
  obtain ⟨-, hscript, -⟩ := exec_next h
  rw [exec_next_regs h]
  refine ⟨hscript, Reference.nextRegs_sameConfig hr, ?ts, ?code, ?failure, ?emit, ?busy,
    Reference.nextRegs_cnt_of_not_delay hr, ?edge, ?cancel, ?idle, ?moves⟩
  case ts => exact fun hi => by simp [hrst, hi]
  case code => exact fun hs => by simp [hrst, hs]
  case failure => exact fun hf => by simp [hrst, hf]
  case emit => exact fun he => by simp [hrst, he]
  case busy => exact fun hh hi => by simp [hrst, hh, hi]
  case edge => rw [Reference.nextRegs_edge_prev hr, lineOf_edge_in]
  case cancel => rw [Reference.nextRegs_cancel_pending hr, Reference.nextRegs_fsm hr]
  case idle => exact fun hf hs => by simp [hrst, Reference.nextFsm_idle hf, hs]
  case moves => exact fun hm => by rw [Reference.nextRegs_fsm hr, Reference.nextFsm_of_not_moves hm]

/-- Settles O50, by induction on the number of ticks: a running tick keeps the configuration. -/
theorem configurationIsLockedWhileRunning : Obligations.ConfigurationIsLockedWhileRunning := by
  intro n
  induction n with
  | zero =>
    intro s t h _
    cases h
    simp [Reference.sameConfig]
  | succ n ih =>
    intro s t h hrun
    rw [runTicks_succ] at h
    obtain ⟨hf, hr⟩ := hrun 0 s n.succ_pos (runTicks_zero s)
    refine Reference.sameConfig_trans (next_sameConfig hr hf) (ih _ t h fun k u hk hu => ?_)
    exact hrun (k + 1) u (Nat.succ_lt_succ hk) (by rw [runTicks_succ]; exact hu)

/-- Settles O40: the fields of the reset registers. -/
theorem resetRegisterValues : Obligations.ResetRegisterValues := by
  unfold Obligations.ResetRegisterValues
  simp [Regs.reset]

/-- Settles O43: the invariant holds at reset, as at every width. -/
theorem resetStateHasTheReachabilityFacts : Obligations.ResetStateHasTheReachabilityFacts :=
  reset_inv Config.params

end Sys2Proof.Machine
end

section
/-! The decoder and the encoder, format by format (30_encoding.md R51 to R60): the words and the operands of
a host command, the two command bytes, and what decoding says of a frame. -/

namespace Sys2Proof

variable {P : Params} {v : CodecSel} {f : Frame P} {i : Instr}

/-! F-HOST and its F-CFG bundle (R52, R58). -/

theorem AcqConfig.fits_iff {a : AcqConfig} : a.fits P = true ↔
    a.edgePin < 2 ^ P.wPin ∧ a.resetPin < 2 ^ P.wPin ∧ a.holdPin < 2 ^ P.wPin ∧
    a.adcChannel < 2 ^ P.wChan ∧ a.codec < 2 ∧ a.peakDelay < 2 ^ P.wDelay ∧
    a.resetSettleDelay < 2 ^ P.wDelay ∧ a.resetHoldDuration < 2 ^ P.wDelay := by
  simp [AcqConfig.fits, and_assoc]

/-- What a port carries fits it. -/
@[simp] theorem operandsOfPorts_fits (c : CfgPorts P) : (operandsOfPorts c).fits P = true :=
  AcqConfig.fits_iff.mpr ⟨c.cfg_edge_pin.isLt, c.cfg_reset_pin.isLt, c.cfg_hold_pin.isLt,
    c.cfg_adc_channel.isLt, c.cfg_codec.isLt, c.cfg_peak_delay.isLt, c.cfg_reset_settle_delay.isLt,
    c.cfg_reset_hold_duration.isLt⟩

@[simp] theorem portsOfOperands_operandsOfPorts (c : CfgPorts P) :
    portsOfOperands P (operandsOfPorts c) = c := by
  simp [portsOfOperands, operandsOfPorts]

/-- Operands that fit their ports are not cut by them (R8). -/
theorem operandsOfPorts_portsOfOperands {a : AcqConfig} (h : a.fits P = true) :
    operandsOfPorts (portsOfOperands P a) = a := by
  obtain ⟨hedge, hreset, hhold, hchan, hcodec, hpeak, hsettle, hpulse⟩ := AcqConfig.fits_iff.mp h
  simp [operandsOfPorts, portsOfOperands, Nat.mod_eq_of_lt, *]

theorem hostCodeWord_decodeHostCode : ∀ w : BitVec 2, hostCodeWord (decodeHostCode w) = w := by decide

theorem decodeHost_wellFormed (w : BitVec 2) (cfg : CfgPorts P) :
    (decodeHost w cfg).wellFormed P = true := by
  unfold decodeHost
  cases decodeHostCode w <;> simp [Instr.wellFormed]

/-- Only LOAD_CONFIG reads the cfg_* ports (R32). -/
theorem encode_decodeHost (w : BitVec 2) (cfg : CfgPorts P) :
    encode P (decodeHost w cfg) = .host w (if w = 0b01#2 then cfg else CfgPorts.zero P) := by
  have hw := hostCodeWord_decodeHostCode w
  unfold decodeHost
  cases hc : decodeHostCode w <;> rw [hc] at hw <;> subst hw <;> simp [encode, hostCodeWord]

/-! F-CMD (R53). -/

/-- The row whose word is the command byte of channel `c`, under the selector `v` (R66). -/
def commandRow (v : CodecSel) (c : BitVec 1) : Instr :=
  if c = 0#1 then (if v = 0#1 then .adcCmdCh0 else .adcCmdCh0Legacy)
  else (if v = 0#1 then .adcCmdCh1 else .adcCmdCh1Legacy)

theorem commandRow_wellFormed (v : CodecSel) (c : BitVec 1) : (commandRow v c).wellFormed P = true := by
  unfold commandRow
  split_ifs <;> rfl

theorem encode_commandRow (v : CodecSel) (c : BitVec 1) :
    encode P (commandRow v c) = .command [commandLayout c] := by
  unfold commandRow
  obtain rfl | rfl := c.eq_zero_or_eq_one <;> by_cases hv : v = 0#1 <;> simp [encode, hv]

theorem decodeCommandByte_commandLayout (v : CodecSel) : ∀ c : BitVec 1,
    decodeCommandByte v (commandLayout c) = .ok (commandRow v c)
  | 0#1 => rfl
  | 1#1 => rfl

/-- A byte is the command byte of a channel and decodes to its row, or it is rejected (R59 (b)). -/
theorem decodeCommandByte_cases (v : CodecSel) (b : Byte) :
    (∃ c, b = commandLayout c ∧ decodeCommandByte v b = .ok (commandRow v c)) ∨
      decodeCommandByte v b = .error .notACommandByte := by
  by_cases h0 : b = 0x68#8
  · exact .inl ⟨0#1, h0, h0 ▸ decodeCommandByte_commandLayout v 0#1⟩
  · by_cases h1 : b = 0x78#8
    · exact .inl ⟨1#1, h1, h1 ▸ decodeCommandByte_commandLayout v 1#1⟩
    · exact .inr (by simp [decodeCommandByte, h0, h1])

/-- The fixed bits of the layout `011C1000` leave the channel bit free. -/
theorem commandPattern_iff (b : Byte) :
    b.extractLsb' 5 3 = 0b011#3 ∧ b.extractLsb' 0 4 = 0b1000#4 ↔ ∃ c, b = commandLayout c := by
  constructor
  · rintro ⟨hhigh, hlow⟩
    refine ⟨b.extractLsb' 4 1, ?_⟩
    have htop := BitVec.extractLsb'_append_extractLsb'_eq_extractLsb' (x := b) (len₂ := 3)
      (show 5 = 4 + 1 from rfl)
    have hall := BitVec.extractLsb'_append_extractLsb'_eq_extractLsb' (x := b) (len₂ := 4)
      (show 4 = 0 + 4 from rfl)
    rw [commandLayout, ← hhigh, ← hlow, htop]
    exact (hall.trans BitVec.extractLsb'_eq_self).symm
  · rintro ⟨c, rfl⟩
    revert c
    decide

/-- The channel of a command byte is its bit 4. -/
theorem commandLayout_getLsbD_four : ∀ c : BitVec 1,
    (commandLayout c).getLsbD 4 = false ↔ c = 0#1 := by decide

/-! F-RX (R55). -/

theorem decodeResponseBytes_wellFormed (v : CodecSel) (b0 b1 : Byte) :
    (decodeResponseBytes v b0 b1).wellFormed P = true := by
  unfold decodeResponseBytes
  split <;> rfl

theorem encode_decodeResponseBytes (v : CodecSel) (b0 b1 : Byte) :
    encode P (decodeResponseBytes v b0 b1) = .response [b0, b1] := by
  unfold decodeResponseBytes
  split <;> rfl

/-- Inversion of the decoder: the three formats, each of its own length (R60). -/
theorem decode_ok_cases (h : decode v f = .ok i) :
    (∃ w cfg, f = .host w cfg ∧ i = decodeHost w cfg) ∨
      (∃ c, f = .command [commandLayout c] ∧ i = commandRow v c) ∨
      (∃ b0 b1, f = .response [b0, b1] ∧ i = decodeResponseBytes v b0 b1) := by
  unfold decode at h
  split at h
  · cases h
    exact .inl ⟨_, _, rfl, rfl⟩
  · next b =>
    obtain ⟨c, rfl, hok⟩ | herr := decodeCommandByte_cases v b
    · rw [hok] at h
      cases h
      exact .inr (.inl ⟨c, rfl, rfl⟩)
    · simp [herr] at h
  · cases h
  · cases h
    exact .inr (.inr ⟨_, _, rfl, rfl⟩)
  · cases h

/-- Whatever decodes is well formed. -/
theorem wellFormed_of_decode (h : decode v f = .ok i) : i.wellFormed P = true := by
  obtain ⟨w, cfg, -, rfl⟩ | ⟨c, -, rfl⟩ | ⟨b0, b1, -, rfl⟩ := decode_ok_cases h
  · exact decodeHost_wellFormed w cfg
  · exact commandRow_wellFormed v c
  · exact decodeResponseBytes_wellFormed v b0 b1

/-- Encoding and decoding with the instruction's own selector is the identity. -/
theorem decode_encode (h : i.wellFormed P = true) : decode i.codecSel (encode P i) = .ok i := by
  cases i with
  | nop => rfl
  | loadConfig a => exact congrArg (Except.ok <| Instr.loadConfig ·) (operandsOfPorts_portsOfOperands h)
  | start => rfl
  | cancel => rfl
  | adcCmdCh0 => exact decodeCommandByte_commandLayout 0#1 0#1
  | adcCmdCh1 => exact decodeCommandByte_commandLayout 0#1 1#1
  | adcCmdCh0Legacy => exact decodeCommandByte_commandLayout 1#1 0#1
  | adcCmdCh1Legacy => exact decodeCommandByte_commandLayout 1#1 1#1
  | adcRspDefault b0 b1 => rfl
  | adcRspLegacy b0 b1 => rfl

/-- Inversion of a table word: it stands for a frame that decodes under the default selector. -/
theorem decodeTableWordAt_some {nbits w : Nat} (h : decodeTableWordAt P nbits w = some i) :
    ∃ f : Frame P, decode 0#1 f = .ok i := by
  unfold decodeTableWordAt at h
  split at h
  · cases h
  · next f _ =>
    split at h
    · next hd =>
      cases h
      exact ⟨f, hd⟩
    · cases h

end Sys2Proof
end

section
/-! The words on the ports and the tick: every presented word runs as the step, and placing an instruction
presents its word (30_encoding.md R51 to R55, R61; 40_adc_codec.md R69). -/

namespace Sys2Proof.Machine

variable {P : Params}

/-- Both variants have the one layout of R55, under any selector. -/
theorem decodeResponse_eq_codeOf (b0 b1 : Byte) (v : CodecSel) :
    decodeResponse b0 b1 v = Reference.codeOf b0 b1 := by
  unfold decodeResponse
  split
  · rw [decDefault_eq_codeOf]
  · rw [decLegacy_eq_codeOf]

/-- Performing any word presented on the ports is the tick (R69, R70). -/
theorem exec_of_presents {s : Generic.State P} {f : Frame P} {i : Instr} (hp : Reference.presents s f)
    (hd : decode s.regs.CFG4 f = .ok i) : Generic.exec i s = Generic.step s := by
  rw [generic_step_eq]
  obtain rfl | ⟨hchan, rfl⟩ | ⟨hdone, herr, rfl⟩ := hp
  · cases hd
    exact exec_decodeHost s
  · exact exec_decodeCommand hchan hd
  · cases hd
    exact exec_decodeResponse hdone herr

/-- The placed word of an instruction is read as that instruction: a host command alike under either
selector, a codec row under its own. -/
theorem decode_placeInstr (s : Generic.State P) {i : Instr} (h : i.wellFormed P = true) :
    decode (s.placeInstr i).regs.CFG4 (encode P i) = .ok i := by
  have hd := decode_encode h
  cases i <;> exact hd

/-- A command placed with a valid channel presents the byte of that channel (R77, R82). -/
theorem presents_placeCommand (s : Generic.State P) (ch : BitVec P.wChan) (v : CodecSel) (c : BitVec 1)
    (h : ch.toNat = c.toNat) :
    Reference.presents (s.placeCommand ch v) (.command [commandLayout c]) := by
  have hreg : (s.placeCommand ch v).regs.CFG3.toNat = c.toNat := h
  refine .inr (.inl ⟨channelValid_iff.mpr ?_, ?_⟩)
  · obtain rfl | rfl := c.eq_zero_or_eq_one <;> simp [hreg]
  · have hbyte : selectedByte (s.placeCommand ch v).regs = commandLayout c := by
      obtain rfl | rfl := c.eq_zero_or_eq_one
      · exact selectedByte_channel0 hreg
      · exact selectedByte_channel1 hreg
    rw [← hbyte]
    rfl

/-- Placing an instruction presents its word, where channel 1 is representable (R7). -/
theorem presents_placeInstr (hP : P.legal) (s : Generic.State P) (i : Instr) :
    Reference.presents (s.placeInstr i) (encode P i) := by
  have hone : (1 : BitVec P.wChan).toNat = (1#1).toNat := by
    have h : 1 < 2 ^ P.wChan := Nat.one_lt_two_pow (by omega)
    simp [Nat.mod_eq_of_lt h]
  have hzero : (0 : BitVec P.wChan).toNat = (0#1).toNat := by simp
  cases i with
  | nop => exact .inl rfl
  | loadConfig a => exact .inl rfl
  | start => exact .inl rfl
  | cancel => exact .inl rfl
  | adcCmdCh0 => exact presents_placeCommand s 0 0#1 0#1 hzero
  | adcCmdCh1 => exact presents_placeCommand s 1 0#1 1#1 hone
  | adcCmdCh0Legacy => exact presents_placeCommand s 0 1#1 0#1 hzero
  | adcCmdCh1Legacy => exact presents_placeCommand s 1 1#1 1#1 hone
  | adcRspDefault b0 b1 => exact .inr (.inr ⟨rfl, rfl, rfl⟩)
  | adcRspLegacy b0 b1 => exact .inr (.inr ⟨rfl, rfl, rfl⟩)

/-- A placed table word is the instruction it decodes to, placed. -/
theorem placeWord_eq_placeInstr (s : Generic.State P) {nbits w : Nat} {i : Instr}
    (h : decodeTableWordAt P nbits w = some i) : s.placeWord nbits w = s.placeInstr i := by
  rw [Generic.State.placeWord, h]

end Sys2Proof.Machine
end

section
/-! The statements of 30_encoding.md. -/

namespace Sys2Proof.Machine

/-- Settles O1: `decode_encode`, row by row; only the operands of LOAD_CONFIG need to fit their ports. -/
theorem decodeOfEncodeGivesInstruction : Obligations.DecodeOfEncodeGivesInstruction :=
  fun _ _ h => decode_encode h

/-- Settles O2, by the format of the frame; only LOAD_CONFIG reads the cfg_* ports. -/
theorem encodeOfDecodedFrameGivesFrame : Obligations.EncodeOfDecodedFrameGivesFrame := by
  intro P v f i h
  refine ⟨wellFormed_of_decode h, ?_⟩
  obtain ⟨w, cfg, rfl, rfl⟩ | ⟨c, rfl, rfl⟩ | ⟨b0, b1, rfl, rfl⟩ := decode_ok_cases h
  · rw [encode_decodeHost]
    constructor
    · intro hw
      rw [if_pos (hw w cfg rfl)]
    · rintro _ _ ⟨⟩ hw
      rw [if_neg hw]
  · exact ⟨fun _ => encode_commandRow v c, nofun⟩
  · exact ⟨fun _ => encode_decodeResponseBytes v b0 b1, nofun⟩

/-- Settles O4: the bytes of the pattern are the layouts of the two channels, and no other byte decodes. -/
theorem commandByteIsPattern : Obligations.CommandByteIsPattern := by
  intro P v b
  rw [commandPattern_iff]
  constructor
  · rintro ⟨c, rfl⟩
    simp only [commandLayout_getLsbD_four]
    exact decodeCommandByte_commandLayout v c
  · intro hb
    obtain ⟨c, rfl, -⟩ | herr := decodeCommandByte_cases v b
    · exact absurd ⟨c, rfl⟩ hb
    · exact herr

/-- Settles O9: the code is the low two bits of the first byte and the second byte. -/
theorem responseFrameLayout : Obligations.ResponseFrameLayout := by
  intro v b0 b1
  simp only [decodeResponse_eq_codeOf, Reference.codeOf]
  refine ⟨BitVec.extractLsb'_append_eq_left, BitVec.extractLsb'_append_eq_right, fun c0 h => ?_⟩
  rw [h]

/-- Settles O22: the host command, the command byte and the answered frame each run as the tick. -/
theorem everyPresentedWordGivesTheStep : Obligations.EveryPresentedWordGivesTheStep := by
  intro s f i hp hd
  rw [step_generic, exec_generic, exec_of_presents hp hd]

/-- Settles O3: each word by evaluation of the decoder. -/
theorem tableWordsDecode : Obligations.TableWordsDecode := by
  unfold Obligations.TableWordsDecode
  decide

/-- Settles O23: the placed state presents the word of its instruction, so O22 applies. -/
theorem placedWordIsRun : Obligations.PlacedWordIsRun := by
  intro s nbits w i h
  obtain ⟨f, hf⟩ := decodeTableWordAt_some h
  rw [State.withFetchWord, placeWord_eq_placeInstr s h]
  exact everyPresentedWordGivesTheStep _ _ i (presents_placeInstr (by decide) s i)
    (decode_placeInstr s (wellFormed_of_decode hf))

end Sys2Proof.Machine
end

section
/-! The codec's functions (40_adc_codec.md R62 to R68): the two encoders and the two decoders are the same
functions, by their formulas on naturals, and the channels they accept are those the validation passes. -/

namespace Sys2Proof.Machine

variable {P : Params} {S : Regs P}

/-! The encoders (R62, R63, R67). -/

theorem encDefault_eq_error {ch : Nat} (h0 : ch ≠ 0) (h1 : ch ≠ 1) :
    encDefault ch = .error .invalidChannel := by
  simp [encDefault, h0, h1]

/-- The legacy formula gives the two bytes of R62 on the two channels that have one (R68). -/
theorem encLegacy_eq_encDefault : encLegacy = encDefault := by
  funext ch
  by_cases h0 : ch = 0
  · subst h0
    decide
  · by_cases h1 : ch = 1
    · subst h1
      decide
    · simp [encLegacy, encDefault, h0, h1]

theorem encodeCommand_eq_encDefault (ch : Nat) (v : CodecSel) : encodeCommand ch v = encDefault ch := by
  unfold encodeCommand
  split
  · rfl
  · rw [encLegacy_eq_encDefault]

theorem encDefault_ok_iff {ch : Nat} : (∃ b, encDefault ch = .ok b) ↔ channelValid ch = true := by
  rw [channelValid_iff]
  constructor
  · rintro ⟨b, hb⟩
    by_contra hne
    obtain ⟨h0, h1⟩ := not_or.mp hne
    rw [encDefault_eq_error h0 h1] at hb
    cases hb
  · rintro (rfl | rfl)
    · exact ⟨_, rfl⟩
    · exact ⟨_, rfl⟩

/-- A running sequencer has one of the two channels with a command byte (R35 (a)). -/
theorem Regs.Inv.channel (h : S.Inv) (hf : S.fsm ≠ .idle) : S.CFG3.toNat = 0 ∨ S.CFG3.toNat = 1 :=
  (h.legal (h.running hf)).1

/-- The selector does not reach the byte on xfer_tx0 (R68). -/
theorem selectedByte_with_CFG4 (S : Regs P) (v : CodecSel) :
    selectedByte { S with CFG4 := v } = selectedByte S := by
  simp only [selectedByte, encodeCommand_eq_encDefault]

/-- The selector reaches no output (R68, R82). -/
theorem outputs_with_CFG4 (S : Regs P) (v : CodecSel) : outputs { S with CFG4 := v } = outputs S := by
  rw [outputs, selectedByte_with_CFG4]
  rfl

/-- Bit 0 of the mask is the InvalidChannel check (R67, R93). -/
theorem validate_getLsbD_zero (e r h : BitVec P.wPin) (ch : BitVec P.wChan) (d : BitVec P.wDelay) :
    (validate e r h ch d).getLsbD 0 = !channelValid ch.toNat := by
  simp only [validate, BitVec.getLsbD_append]
  simp

/-! The decoders on naturals (R64, R65). -/

/-- A byte is not cut by the 16 bits the decoders compute on. -/
theorem byte_toNat_mod (b : Byte) : b.toNat % 2 ^ 16 = b.toNat := Nat.mod_eq_of_lt (by omega)

theorem decDefault_toNat (b0 b1 : Byte) :
    (decDefault b0 b1).toNat = ((b0.toNat <<< 8) ||| b1.toNat) &&& 0x3FF := by
  have hshift : b0.toNat <<< 8 < 2 ^ 16 := by
    rw [Nat.shiftLeft_eq]
    omega
  have hcode : ((b0.toNat <<< 8) ||| b1.toNat) &&& 0x3FF < 2 ^ 10 :=
    Nat.lt_succ_of_le Nat.and_le_right
  have hmask : (0x3FF#16).toNat = 0x3FF := rfl
  simp only [decDefault, BitVec.toNat_setWidth, BitVec.toNat_and, BitVec.toNat_or,
    BitVec.toNat_shiftLeft, byte_toNat_mod, hmask, Nat.mod_eq_of_lt hshift]
  exact Nat.mod_eq_of_lt hcode

theorem decLegacy_toNat (b0 b1 : Byte) :
    (decLegacy b0 b1).toNat = ((b0.toNat &&& 0x3) <<< 8) ||| b1.toNat := by
  have hlow : b0.toNat &&& 0x3 ≤ 3 := Nat.and_le_right
  have hshift : (b0.toNat &&& 0x3) <<< 8 < 2 ^ 10 := by
    rw [Nat.shiftLeft_eq]
    omega
  have hcode : ((b0.toNat &&& 0x3) <<< 8) ||| b1.toNat < 2 ^ 10 :=
    Nat.or_lt_two_pow hshift (by omega)
  have hmask : (0x3#16).toNat = 0x3 := rfl
  simp only [decLegacy, BitVec.toNat_setWidth, BitVec.toNat_and, BitVec.toNat_or,
    BitVec.toNat_shiftLeft, byte_toNat_mod, hmask,
    Nat.mod_eq_of_lt (hshift.trans (show 2 ^ 10 < 2 ^ 16 by decide))]
  exact Nat.mod_eq_of_lt hcode

theorem code_toNat_le (c : Code) : c.toNat ≤ 1023 := Nat.le_of_lt_succ c.isLt

end Sys2Proof.Machine
end

section
/-! Two machines that differ only in the codec selector stay so, tick by tick (40_adc_codec.md R68): the
selector is read by the two codec functions and by nothing else (R69). -/

namespace Sys2Proof.Reference

open Sys2Proof.Machine

variable {P : Params} {s s' : Generic.State P}

/-- The selector in CFG4 and on cfg_codec reaches CFG4 alone (R66, R92). -/
theorem nextRegs_with_codec (S : Regs P) (I : Inputs P) (v x : CodecSel) :
    ∃ w, nextRegs { S with CFG4 := v } { I with cfg := { I.cfg with cfg_codec := x } } =
      { nextRegs S I with CFG4 := w } := by
  unfold nextRegs
  split
  · exact ⟨_, rfl⟩
  · exact ⟨_, rfl⟩

/-- The next lines differ in cfg_codec alone; past the end of the scripts they are the same free line. -/
theorem inputs_of_sameButCodec (h : sameButCodec s s') :
    ∃ x, s'.inputs = { s.inputs with cfg := { s.inputs.cfg with cfg_codec := x } } := by
  obtain ⟨-, hscript, htick, -⟩ := h
  cases hs : s.script with
  | nil =>
    rw [hs, List.forall₂_nil_left_iff] at hscript
    rw [inputs_nil hs, inputs_nil hscript, htick]
    exact ⟨_, rfl⟩
  | cons I l =>
    rw [hs, List.forall₂_cons_left_iff] at hscript
    obtain ⟨I', l', hI, -, hs'⟩ := hscript
    rw [inputs_cons hs, inputs_cons hs', hI]
    exact ⟨_, rfl⟩

theorem outputs_of_sameButCodec (h : sameButCodec s s') : outputs s'.regs = outputs s.regs := by
  obtain ⟨hregs, -⟩ := h
  rw [hregs, outputs_with_CFG4]

/-- One tick side by side. -/
theorem sameButCodec_tick (h : sameButCodec s s') :
    sameButCodec (s.advance (outputs s.regs) (Machine.nextRegs s))
      (s'.advance (outputs s'.regs) (Machine.nextRegs s')) := by
  have hout := outputs_of_sameButCodec h
  obtain ⟨x, hinputs⟩ := inputs_of_sameButCodec h
  obtain ⟨hregs, hscript, htick, -⟩ := h
  obtain ⟨w, hw⟩ := nextRegs_with_codec s.regs s.inputs s'.regs.CFG4 x
  have hnext : Machine.nextRegs s' = { Machine.nextRegs s with CFG4 := w } := by
    rw [nextRegs_eq_reference, nextRegs_eq_reference, hinputs, hregs, hw]
  refine ⟨?_, ?_, congrArg (· + 1) htick, congrArg some hout⟩
  · simp [hnext]
  · simpa using List.forall₂_drop 1 hscript

end Sys2Proof.Reference
end

section
/-! The rows as ticks (40_adc_codec.md R69; 41_sequencer.md R77, R78; 42_host_control.md R92): a command row
is the tick that drives its byte, a response row the tick in which its frame is answered, by either variant,
and LOAD_CONFIG in IDLE the tick that writes its operands and their mask. -/

namespace Sys2Proof.Machine

variable {P : Params}

/-- In the issue tick hold_out and xfer_start are high (R77, R82). -/
theorem outputs_issue {S : Regs P} (hf : S.fsm = .holding) (hb : S.xfer_busy = false) :
    outputs S = { outputs S with hold_out := true, xfer_start := true } := by
  simp [outputs, outputsWith, hf, hb]

theorem exec_commandRow (s : State) {i : Instr} {b : Byte}
    (h : i = .adcCmdCh0 ∧ b = 0x68#8 ∨ i = .adcCmdCh1 ∧ b = 0x78#8 ∨
      i = .adcCmdCh0Legacy ∧ b = 0x68#8 ∨ i = .adcCmdCh1Legacy ∧ b = 0x78#8) :
    exec i s = .next (s.advance { outputs s.regs with xfer_tx0 := b }
      (next (hostCode s.inputs) Reference.codeOf s.regs s.inputs)) := by
  rw [exec_eq_reference, ← next_eq_reference]
  obtain ⟨rfl, rfl⟩ | ⟨rfl, rfl⟩ | ⟨rfl, rfl⟩ | ⟨rfl, rfl⟩ := h <;> rfl

theorem exec_responseRow (s : State) {i : Instr} {b0 b1 : Byte}
    (h : i = .adcRspDefault b0 b1 ∨ i = .adcRspLegacy b0 b1) :
    exec i s = .next (Reference.after s
      (next (hostCode s.inputs) Reference.codeOf s.regs (withResponse b0 b1 s.inputs))) := by
  rw [exec_eq_reference, ← next_eq_reference]
  obtain rfl | rfl := h <;> rfl

/-- LOAD_CONFIG in IDLE is one application of its rule, to the operands on their ports (R92). -/
theorem exec_loadConfig_of_idle {s : State} {a : AcqConfig} (hr : s.inputs.rst = false)
    (hf : s.regs.fsm = .idle) :
    exec (.loadConfig a) s = .next (s.advance (outputs s.regs)
      (loadConfigRule (portsOfOperands _ a) (tickBase s.inputs s.regs))) := by
  have hnext : next .loadConfig (selectedDecoder s.regs) s.regs (withCfg a s.inputs) =
      loadConfigRule (portsOfOperands _ a) (tickBase s.inputs s.regs) := by
    obtain ⟨-, e⟩ | ⟨hs, -⟩ | ⟨hl, -⟩ :=
      next_idle_cases (c := .loadConfig) (dec := selectedDecoder s.regs) (I := withCfg a s.inputs) hr hf
    · exact e
    · cases hs
    · exact absurd rfl hl
  rw [← hnext]
  rfl

/-- The code the statement computes on naturals is the layout of R55, for either row. -/
theorem responseRow_code {i : Instr} {b0 b1 : Byte} {code : Code}
    (h : i = .adcRspDefault b0 b1 ∧ code = BitVec.ofNat 10 (((b0.toNat <<< 8) ||| b1.toNat) &&& 0x3FF) ∨
      i = .adcRspLegacy b0 b1 ∧ code = BitVec.ofNat 10 (((b0.toNat &&& 0x3) <<< 8) ||| b1.toNat)) :
    (i = .adcRspDefault b0 b1 ∨ i = .adcRspLegacy b0 b1) ∧ code = Reference.codeOf b0 b1 := by
  obtain ⟨hi, rfl⟩ | ⟨hi, rfl⟩ := h
  · refine ⟨.inl hi, ?_⟩
    rw [← decDefault_toNat, BitVec.ofNat_toNat, BitVec.setWidth_eq, decDefault_eq_codeOf]
  · refine ⟨.inr hi, ?_⟩
    rw [← decLegacy_toNat, BitVec.ofNat_toNat, BitVec.setWidth_eq, decLegacy_eq_codeOf]

end Sys2Proof.Machine
end

section
/-! The statements of 40_adc_codec.md. -/

namespace Sys2Proof.Machine

/-- Settles O12, by induction on the number of ticks: one tick keeps the two machines side by side, and no
output reads the selector. -/
theorem codecSelectorIsUnobservable : Obligations.CodecSelectorIsUnobservable := by
  refine ⟨by decide, by decide, fun b0 b1 => by rw [decDefault_eq_codeOf, decLegacy_eq_codeOf], ?_⟩
  intro n
  induction n with
  | zero => exact fun s s' h => ⟨s, s', rfl, rfl, h, Reference.outputs_of_sameButCodec h⟩
  | succ n ih =>
    intro s s' h
    rw [runTicks_succ, runTicks_succ]
    exact ih _ _ (Reference.sameButCodec_tick h)

/-- Settles O7: no bit above the ten of the mask is set, so no cut changes the value. -/
theorem defaultDecoderFormula : Obligations.DefaultDecoderFormula :=
  fun b0 b1 => ⟨decDefault_toNat b0 b1, code_toNat_le _⟩

/-- Settles O8: two bits beside a byte make ten, so no cut changes the value. -/
theorem legacyDecoderFormula : Obligations.LegacyDecoderFormula :=
  fun b0 b1 => ⟨decLegacy_toNat b0 b1, code_toNat_le _⟩

/-- Settles O10: a running sequencer has channel 0 or 1, whose byte is that channel's layout. -/
theorem selectedCodecAndTransmitByte : Obligations.SelectedCodecAndTransmitByte := by
  refine ⟨fun ch => ⟨rfl, rfl⟩, fun b0 b1 => ⟨rfl, rfl⟩, fun P S hinv hf => ?_⟩
  have hbyte : (outputs S).xfer_tx0 = selectedByte S := rfl
  rw [hbyte]
  obtain h0 | h1 := hinv.channel hf
  · rw [selectedByte_channel0 h0, h0]
    exact ⟨encodeCommand_zero _, rfl⟩
  · rw [selectedByte_channel1 h1, h1]
    exact ⟨encodeCommand_one _, rfl⟩

/-- Settles O18: the row's tick is an issue tick of R77 with the row's byte on xfer_tx0. -/
theorem commandRowStartsTheExchange : Obligations.CommandRowStartsTheExchange := by
  intro s i b hr hi hf hb
  rw [exec_commandRow s hi, next_issue hr hf hb, outputs_issue hf hb, reference_cancelNow_eq]
  rfl

/-- Settles O19: the row's tick is a successful completion of R78, in its three cases. -/
theorem responseRowCompletesTheExchange : Obligations.ResponseRowCompletesTheExchange := by
  intro s i b0 b1 code hr hi hf hb
  obtain ⟨hrow, rfl⟩ := responseRow_code hi
  rw [exec_responseRow s hrow, reference_cancelNow_eq, ne_eq, toNat_eq_zero_iff]
  obtain ⟨hd, -⟩ | ⟨-, he, -⟩ | ⟨-, -, hc, e⟩ | ⟨-, -, hc, h6, e⟩ | ⟨-, -, hc, h6, e⟩ :=
    next_holding_cases (c := hostCode s.inputs) (dec := Reference.codeOf)
      (I := withResponse b0 b1 s.inputs) hr hf hb
  · cases hd
  · cases he
  · rw [e]
    exact ⟨fun _ => rfl, by simp [hc], by simp [hc]⟩
  · rw [e]
    exact ⟨by simp [hc], fun _ _ => rfl, fun _ h => absurd h h6⟩
  · rw [e]
    exact ⟨by simp [hc], fun _ h => absurd h6 h, fun _ _ => rfl⟩

/-- Settles O5: the table of the two channels, and the invariant's channel while running. -/
theorem defaultEncoderValues : Obligations.DefaultEncoderValues :=
  ⟨rfl, rfl, fun _ => encDefault_eq_error,
    fun _ _ hinv hf => encDefault_ok_iff.mpr (channelValid_iff.mpr (hinv.channel hf))⟩

/-- Settles O6: the formula by evaluation on the two channels; elsewhere the default encoder's error. -/
theorem legacyEncoderFormula : Obligations.LegacyEncoderFormula := by
  refine ⟨?_, fun ch h0 h1 => ?_, by decide, by decide⟩
  · rintro ch (rfl | rfl)
    · exact ⟨by decide, _, rfl, rfl⟩
    · exact ⟨by decide, _, rfl, rfl⟩
  · rw [encLegacy_eq_encDefault, encDefault_eq_error h0 h1]

/-- Settles O11: LOAD_CONFIG in IDLE writes the mask of the channel it writes. -/
theorem channelValidIsEncoderSuccess : Obligations.ChannelValidIsEncoderSuccess := by
  refine ⟨fun ch => ⟨channelValid_iff, encDefault_ok_iff.symm, ?_⟩, fun P => validate_getLsbD_zero,
    fun s a hr hf => ⟨_, exec_loadConfig_of_idle hr hf, validate_getLsbD_zero ..⟩⟩
  rw [encLegacy_eq_encDefault]
  exact encDefault_ok_iff.symm

end Sys2Proof.Machine
end

section
/-! A tick as one application of the next-state function, and the outputs that are functions of `fsm`,
xfer_busy and CFG3 (41_sequencer.md R70, R82). -/

namespace Sys2Proof.Machine

variable {P : Params} {S : Regs P}

@[simp] theorem after_regs (s : Generic.State P) (R : Regs P) : (Reference.after s R).regs = R := rfl

theorem step_eq_next (s : State) :
    step s = .next (Reference.after s
      (next (hostCode s.inputs) (selectedDecoder s.regs) s.regs s.inputs)) := step_eq s

/-- A count that has not run out goes down by one without wrapping (R73). -/
theorem ofNat_toNat_sub_one {w : Nat} {x : BitVec w} (h : 2 ≤ x.toNat) :
    BitVec.ofNat w (x.toNat - 1) = x - 1 := by
  have hone : 1 < 2 ^ w := by omega
  rw [← BitVec.ofNat_sub_ofNat_of_le _ _ hone (by omega), BitVec.ofNat_toNat, BitVec.setWidth_eq]
  rfl

/-- HOLDING, a failed completion (R79). -/
theorem next_failure {c : HostCode} {dec : Byte → Byte → Code} {I : Inputs P} (hr : I.rst = false)
    (hf : S.fsm = .holding) (hb : S.xfer_busy = true) (hd : I.xfer_done = true)
    (he : I.xfer_err = true) :
    next c dec S I = { tickBase I S with
      fail := true, fail_cause_reg := I.xfer_cause,
      fsm := if cancelNow c S then .idle else .waitEdge } := by
  obtain ⟨hd', -⟩ | ⟨-, -, e⟩ | ⟨-, he', -⟩ | ⟨-, he', -⟩ | ⟨-, he', -⟩ :=
    next_holding_cases (c := c) (dec := dec) hr hf hb
  · simp [hd] at hd'
  · exact e
  all_goals simp [he] at he'

@[simp] theorem outputs_hold_out (S : Regs P) : (outputs S).hold_out = decide (S.fsm = .holding) := rfl

@[simp] theorem outputs_reset_out (S : Regs P) :
    (outputs S).reset_out = decide (S.fsm = .resetPulse) := rfl

@[simp] theorem outputs_xfer_start (S : Regs P) :
    (outputs S).xfer_start = decide (S.fsm = .holding ∧ S.xfer_busy = false) := by
  cases hb : S.xfer_busy <;> simp [outputs, outputsWith, hb]

@[simp] theorem outputs_status_state (S : Regs P) : (outputs S).status_state = S.fsm.code := rfl

@[simp] theorem outputs_running (S : Regs P) : (outputs S).running =
    decide (S.fsm = .waitEdge ∨ S.fsm = .peaking ∨ S.fsm = .holding ∨ S.fsm = .settle ∨
      S.fsm = .resetPulse) := by
  cases h : S.fsm <;> simp [outputs, outputsWith, h, isRunning]

/-- The byte on xfer_tx0, by the channel alone (R82, R62). -/
@[simp] theorem outputs_xfer_tx0 (S : Regs P) : (outputs S).xfer_tx0 =
    if S.CFG3.toNat = 0 then 0x68#8 else if S.CFG3.toNat = 1 then 0x78#8 else 0x00#8 := by
  show selectedByte S = _
  split_ifs with h0 h1
  · exact selectedByte_channel0 h0
  · exact selectedByte_channel1 h1
  · have hc : channelValid S.CFG3.toNat = false := channelValid_eq_false_iff.mpr ⟨h0, h1⟩
    simp [selectedByte, hc]

end Sys2Proof.Machine
end

section
/-! What takes a running sequencer out of its state: an honoured cancellation to IDLE, and no move at all
while a request waits for its honouring point (41_sequencer.md R71, R90). -/

namespace Sys2Proof.Reference

open Sys2Proof.Machine

variable {P : Params} {S : Regs P} {I : Inputs P}

theorem honoured_iff :
    honoured S I = true ↔ cancelNow S I = true ∧ honouringPoint S I = true := by simp [honoured]

theorem fsm_ne_idle_of_cancelNow (h : cancelNow S I = true) : S.fsm ≠ .idle := by
  rw [reference_cancelNow_eq, cancelNow_iff] at h
  exact h.1

/-- While running, IDLE is reached by an honoured cancellation only (R71, R90). -/
theorem nextFsm_eq_idle_iff (hf : S.fsm ≠ .idle) : nextFsm S I = .idle ↔ honoured S I = true := by
  unfold nextFsm
  split_ifs with hh <;> simp [hh, hf]

/-- With a request every move is either at an honouring point, where the request takes it, or barred by
the request itself (R71). -/
theorem moves_eq_false_of_request (hc : cancelNow S I = true) (hp : honouringPoint S I = false) :
    moves S I = false := by
  have hstart : start S I = false := start_eq_false (fsm_ne_idle_of_cancelNow hc)
  have hhonoured : honoured S I = false := by simp [honoured, hp]
  simp only [honouringPoint, Bool.or_eq_false_iff] at hp
  obtain ⟨⟨-, hdelay⟩, hcomplete⟩ := hp
  have hpulse : endPulse S = false := by
    cases hl : last S
    · simp [endPulse, hl]
    · simp only [hl, Bool.and_true, inDelay, Bool.or_eq_false_iff] at hdelay
      simp [endPulse, hdelay]
  simp [moves, hhonoured, hstart, hpulse, failure, hcomplete, startPeak, startHold, edgeTaken,
    startSettle, startReset, hc]

/-- HOLDING is entered by `enter_hold` alone (R73). -/
theorem startHold_of_nextFsm (hf : S.fsm ≠ .holding) (h : nextFsm S I = .holding) :
    startHold S I = true := by
  unfold nextFsm at h
  split_ifs at h with _ _ _ hh
  · exact hh
  · exact absurd h hf

end Sys2Proof.Reference
end

section
/-! Runs of several ticks as folds of the next-value equations over their input lines, and the delay states
in them (41_sequencer.md R73). -/

namespace Sys2Proof.Reference

open Sys2Proof.Machine

variable {P : Params} {S : Regs P} {I : Inputs P} {ls : List (Inputs P)}

/-- The registers after one tick for each line of `ls` (R9, R70). -/
def regsAfter (S : Regs P) (ls : List (Inputs P)) : Regs P := ls.foldl nextRegs S

@[simp] theorem regsAfter_nil (S : Regs P) : regsAfter S [] = S := rfl

theorem regsAfter_cons (S : Regs P) (I : Inputs P) (ls : List (Inputs P)) :
    regsAfter S (I :: ls) = regsAfter (nextRegs S I) ls := rfl

theorem regsAfter_append (S : Regs P) (ls ms : List (Inputs P)) :
    regsAfter S (ls ++ ms) = regsAfter (regsAfter S ls) ms := List.foldl_append

theorem runTicks_of_script {n : Nat} {s : State} {ls rest : List (Inputs Config.params)}
    (h : s.script = ls ++ rest) (hn : n = ls.length) :
    ∃ t, runTicks n s = .next t ∧ t.regs = regsAfter s.regs ls ∧ t.script = rest := by
  subst hn
  induction ls generalizing s with
  | nil => exact ⟨s, runTicks_zero s, rfl, h⟩
  | cons I ls ih =>
    rw [List.length_cons, runTicks_succ, regsAfter_cons, ← inputs_cons h, ← nextRegs_eq_reference]
    exact ih (s := s.advance (outputs s.regs) (Machine.nextRegs s)) (by simp [h])

/-- A run along the first `n` lines of the script. -/
theorem runTicks_of_le {n : Nat} {s : State} (h : n ≤ s.script.length) :
    ∃ t, runTicks n s = .next t ∧ t.regs = regsAfter s.regs (s.script.take n) := by
  obtain ⟨t, hrun, hregs, -⟩ := runTicks_of_script (List.take_append_drop n s.script).symm
    (List.length_take_of_le h).symm
  exact ⟨t, hrun, hregs⟩

/-! The delay states. -/

theorem inDelay_iff :
    inDelay S = true ↔ S.fsm = .peaking ∨ S.fsm = .settle ∨ S.fsm = .resetPulse := by
  simp [inDelay, or_assoc]

theorem inDelay_congr {T : Regs P} (h : T.fsm = S.fsm) : inDelay T = inDelay S := by
  rw [inDelay, inDelay, h]

/-- A tick of a delay that is not its last counts down and stays, whatever else comes (R73, R76, R80,
R81). -/
theorem nextRegs_of_delay (hr : I.rst = false) (hd : inDelay S = true) (hn : 2 ≤ S.cnt.toNat) :
    nextRegs S I = { tickBase I S with
      cnt := BitVec.ofNat _ (S.cnt.toNat - 1), cancel_pending := cancelNow S I } := by
  rw [← next_eq_reference, reference_cancelNow_eq]
  obtain hf | hf | hf := inDelay_iff.mp hd
  · obtain ⟨-, e⟩ | ⟨h1, -⟩ | ⟨h1, -⟩ :=
      next_peaking_cases (c := hostCode I) (dec := codeOf) hr hf
    · exact e
    all_goals omega
  · obtain ⟨-, e⟩ | ⟨h1, -⟩ | ⟨h1, -⟩ :=
      next_settle_cases (c := hostCode I) (dec := codeOf) hr hf
    · exact e
    all_goals omega
  · obtain ⟨-, e⟩ | ⟨h1, -⟩ := next_resetPulse_cases (c := hostCode I) (dec := codeOf) hr hf
    · exact e
    · omega

/-- Before its last tick a delay state stays, and the current cycle's results with it (R73, R19, R20). -/
theorem regsAfter_of_delay (hd : inDelay S = true) (hr : ∀ I ∈ ls, I.rst = false)
    (hn : ls.length < S.cnt.toNat) :
    (regsAfter S ls).fsm = S.fsm ∧ (regsAfter S ls).cnt.toNat = S.cnt.toNat - ls.length ∧
      (regsAfter S ls).ts_reg = S.ts_reg ∧ (regsAfter S ls).code_reg = S.code_reg := by
  induction ls generalizing S with
  | nil => simp
  | cons I ls ih =>
    obtain ⟨hrI, hrs⟩ := List.forall_mem_cons.mp hr
    rw [List.length_cons] at hn ⊢
    have e := nextRegs_of_delay hrI hd (by omega)
    have hcnt : (nextRegs S I).cnt.toNat = S.cnt.toNat - 1 := by
      have hlt := S.cnt.isLt
      rw [e]
      exact Nat.mod_eq_of_lt (by omega)
    have hfsm : (nextRegs S I).fsm = S.fsm := by rw [e]; rfl
    obtain ⟨ihfsm, ihcnt, ihts, ihcode⟩ :=
      ih (S := nextRegs S I) (by rw [inDelay_congr hfsm, hd]) hrs (by omega)
    rw [regsAfter_cons, ihfsm, ihcnt, ihts, ihcode, hcnt, e]
    exact ⟨rfl, by omega, rfl, rfl⟩

/-- The last tick of a delay whose count has run: the tick of the line `I` from a state with the count at
1. -/
theorem regsAfter_delay_last (hd : inDelay S = true) (hr : ∀ I ∈ ls, I.rst = false)
    (hn : ls.length = S.cnt.toNat) (hpos : 1 ≤ S.cnt.toNat) :
    ∃ init I, ls = init ++ [I] ∧ regsAfter S ls = nextRegs (regsAfter S init) I ∧
      (regsAfter S init).fsm = S.fsm ∧ (regsAfter S init).cnt.toNat ≤ 1 ∧
      (regsAfter S init).ts_reg = S.ts_reg ∧ (regsAfter S init).code_reg = S.code_reg := by
  obtain rfl | ⟨init, I, rfl⟩ := ls.eq_nil_or_concat'
  · simp at hn
    omega
  · rw [List.length_append, List.length_singleton] at hn
    obtain ⟨hfsm, hcnt, hts, hcode⟩ := regsAfter_of_delay hd
      (fun J hJ => hr J (List.mem_append_left _ hJ)) (show init.length < S.cnt.toNat by omega)
    exact ⟨init, I, rfl, regsAfter_append .., hfsm, by omega, hts, hcode⟩

/-- The last tick of a delay leaves its state, whatever the host commands (R76, R80, R81). -/
theorem nextFsm_ne_of_delay_last (hd : inDelay S = true) (hn : S.cnt.toNat ≤ 1) :
    nextFsm S I ≠ S.fsm := by
  obtain hf | hf | hf := inDelay_iff.mp hd
  · cases hc : cancelNow S I <;>
      simp [nextFsm_peaking hf, hf, hn, hc, honoured, honouringPoint, hd, startHold]
  · cases hc : cancelNow S I <;>
      simp [nextFsm_settle hf, hf, hn, hc, honoured, honouringPoint, hd, startReset]
  · cases hc : cancelNow S I <;>
      simp [nextFsm_resetPulse hf, hf, hn, hc, honoured, honouringPoint, hd, endPulse]

end Sys2Proof.Reference
end

section
/-! A whole cycle without a cancellation, phase by phase, each phase a list of input lines
(41_sequencer.md R75 to R81, R85). -/

namespace Sys2Proof.Reference

open Sys2Proof.Machine

variable {P : Params} {S : Regs P} {I edge issue done : Inputs P}
  {ls peak wait settle pulse : List (Inputs P)}

theorem cancelNow_of_calm (hI : calmLine I) (hp : S.cancel_pending = false) :
    cancelNow S I = false := by
  obtain ⟨-, hcmd⟩ := hI
  rw [reference_cancelNow_eq, ← Bool.not_eq_true, cancelNow_iff]
  simp [hp, hcmd]

/-- A running sequencer that is not cancelled goes on running, with its configuration (R90, R23). -/
theorem regsAfter_of_calm (hcalm : ∀ I ∈ ls, calmLine I) (hf : S.fsm ≠ .idle)
    (hp : S.cancel_pending = false) :
    (regsAfter S ls).fsm ≠ .idle ∧ (regsAfter S ls).cancel_pending = false ∧
      sameConfig S (regsAfter S ls) := by
  induction ls generalizing S with
  | nil => exact ⟨hf, hp, by simp [sameConfig]⟩
  | cons I ls ih =>
    obtain ⟨hI, hcalm⟩ := List.forall_mem_cons.mp hcalm
    have hr : I.rst = false := hI.1
    have hcn := cancelNow_of_calm hI hp
    have hf' : (nextRegs S I).fsm ≠ .idle := by
      rw [nextRegs_fsm hr, ne_eq, nextFsm_eq_idle_iff hf, honoured, hcn]
      simp
    have hp' : (nextRegs S I).cancel_pending = false := by
      rw [nextRegs_cancel_pending hr, hcn, Bool.false_and]
    obtain ⟨hrun, hreq, hcfg⟩ := ih hcalm hf' hp'
    exact ⟨hrun, hreq, sameConfig_trans (nextRegs_sameConfig hr (load_eq_false hf)) hcfg⟩

/-- The last tick of a delay that is not cancelled, with the results of the cycle still in their
registers. -/
theorem regsAfter_delay_last_of_calm (hd : inDelay S = true) (hp : S.cancel_pending = false)
    (hcalm : ∀ I ∈ ls, calmLine I) (hn : ls.length = S.cnt.toNat) (hpos : 1 ≤ S.cnt.toNat) :
    ∃ U I, regsAfter S ls = nextRegs U I ∧ I.rst = false ∧ cancelNow U I = false ∧ U.fsm = S.fsm ∧
      U.cnt.toNat ≤ 1 ∧ U.ts_reg = S.ts_reg ∧ U.code_reg = S.code_reg ∧ sameConfig S U := by
  have hf : S.fsm ≠ .idle := fun h => by simp [inDelay, h] at hd
  obtain ⟨init, I, rfl, hlast, hfsm, hcnt, hts, hcode⟩ :=
    regsAfter_delay_last hd (fun I hI => (hcalm I hI).1) hn hpos
  obtain ⟨hinit, hI⟩ := List.forall_mem_append.mp hcalm
  have hI := List.forall_mem_singleton.mp hI
  obtain ⟨-, hreq, hcfg⟩ := regsAfter_of_calm hinit hf hp
  exact ⟨_, I, hlast, hI.1, cancelNow_of_calm hI hreq, hfsm, hcnt, hts, hcode, hcfg⟩

/-! The last ticks of the delays, no request being there to honour (R76, R80, R81). -/

theorem nextRegs_peaking_last (hr : I.rst = false) (hf : S.fsm = .peaking) (hn : S.cnt.toNat ≤ 1)
    (hc : cancelNow S I = false) :
    nextRegs S I = { tickBase I S with cnt := 0#P.wDelay, fsm := .holding, xfer_busy := false } := by
  rw [reference_cancelNow_eq] at hc
  rw [← next_eq_reference]
  obtain ⟨h2, -⟩ | ⟨-, hc', -⟩ | ⟨-, -, e⟩ :=
    next_peaking_cases (c := hostCode I) (dec := codeOf) hr hf
  · omega
  · simp [hc] at hc'
  · exact e

theorem nextRegs_settle_last (hr : I.rst = false) (hf : S.fsm = .settle) (hn : S.cnt.toNat ≤ 1)
    (hc : cancelNow S I = false) :
    nextRegs S I = { tickBase I S with cnt := S.CFG7, fsm := .resetPulse } := by
  rw [reference_cancelNow_eq] at hc
  rw [← next_eq_reference]
  obtain ⟨h2, -⟩ | ⟨-, hc', -⟩ | ⟨-, -, e⟩ :=
    next_settle_cases (c := hostCode I) (dec := codeOf) hr hf
  · omega
  · simp [hc] at hc'
  · exact e

theorem nextRegs_resetPulse_last (hr : I.rst = false) (hf : S.fsm = .resetPulse)
    (hn : S.cnt.toNat ≤ 1) (hc : cancelNow S I = false) :
    nextRegs S I =
      { tickBase I S with cnt := 0#P.wDelay, emit := true, fsm := .waitEdge } := by
  rw [reference_cancelNow_eq] at hc
  rw [← next_eq_reference]
  obtain ⟨h2, -⟩ | ⟨-, e⟩ := next_resetPulse_cases (c := hostCode I) (dec := codeOf) hr hf
  · omega
  · simpa [hc] using e

/-- The edge and the CFG5 ticks of PEAKING lead to the issue tick (R75, R76). -/
theorem regsAfter_peak (hf : S.fsm = .waitEdge) (hp : S.cancel_pending = false)
    (he : S.edge_prev = false) (hedge : edge.edge_in = true)
    (hcalm : ∀ I ∈ edge :: peak, calmLine I) (hlen : peak.length = S.CFG5.toNat) :
    (regsAfter S (edge :: peak)).fsm = .holding ∧
      (regsAfter S (edge :: peak)).xfer_busy = false := by
  obtain ⟨hI, hpeak⟩ := List.forall_mem_cons.mp hcalm
  have hcn : Machine.cancelNow (hostCode edge) S = false := by
    rw [← reference_cancelNow_eq, cancelNow_of_calm hI hp]
  have hrise : rising S edge = true := rising_iff.mpr ⟨he, hedge⟩
  rw [regsAfter_cons]
  obtain ⟨hc, -⟩ | ⟨-, hx, -⟩ | ⟨-, -, h5, e⟩ | ⟨-, -, h5, e⟩ :=
    next_waitEdge_cases (c := hostCode edge) (dec := codeOf) hI.1 hf
  · simp [hcn] at hc
  · simp [hrise] at hx
  · obtain rfl : peak = [] := by simpa [h5] using hlen
    rw [← next_eq_reference, e]
    exact ⟨rfl, rfl⟩
  · rw [next_eq_reference] at e
    have hpos : 1 ≤ S.CFG5.toNat := Nat.one_le_iff_ne_zero.mpr (mt toNat_eq_zero_iff.mp h5)
    obtain ⟨U, J, hlast, hr, hcn, hfsm, hcnt, -⟩ := regsAfter_delay_last_of_calm
      (S := nextRegs S edge) (ls := peak) (by rw [e]; rfl) (by rw [e]; rfl) hpeak
      (by rw [e]; exact hlen) (by rw [e]; exact hpos)
    have hfsm : U.fsm = .peaking := by rw [hfsm, e]
    rw [hlast, nextRegs_peaking_last hr hfsm hcnt hcn]
    exact ⟨rfl, rfl⟩

/-- While no answer comes, an exchange in flight stays in flight (R78). -/
theorem nextRegs_of_unanswered (hr : I.rst = false) (hf : S.fsm = .holding) (hb : S.xfer_busy = true)
    (hd : I.xfer_done = false) :
    nextRegs S I = { tickBase I S with cancel_pending := cancelNow S I } := by
  rw [← next_eq_reference, reference_cancelNow_eq]
  obtain ⟨-, e⟩ | ⟨hd', -⟩ | ⟨hd', -⟩ | ⟨hd', -⟩ | ⟨hd', -⟩ :=
    next_holding_cases (c := hostCode I) (dec := codeOf) hr hf hb
  · exact e
  all_goals simp [hd] at hd'

theorem regsAfter_of_unanswered (hf : S.fsm = .holding) (hb : S.xfer_busy = true)
    (hr : ∀ I ∈ ls, I.rst = false) (hd : ∀ I ∈ ls, I.xfer_done = false) :
    (regsAfter S ls).fsm = .holding ∧ (regsAfter S ls).xfer_busy = true ∧
      (regsAfter S ls).ts_reg = S.ts_reg := by
  induction ls generalizing S with
  | nil => exact ⟨hf, hb, rfl⟩
  | cons I ls ih =>
    obtain ⟨hrI, hrs⟩ := List.forall_mem_cons.mp hr
    obtain ⟨hdI, hds⟩ := List.forall_mem_cons.mp hd
    rw [regsAfter_cons, nextRegs_of_unanswered hrI hf hb hdI]
    exact ih (S := { tickBase I S with cancel_pending := cancelNow S I }) hf hb hrs hds

/-- The issue tick takes the timestamp, and HOLDING waits for the answer (R77, R78). -/
theorem regsAfter_wait (hf : S.fsm = .holding) (hb : S.xfer_busy = false)
    (hr : ∀ I ∈ issue :: wait, I.rst = false) (hd : ∀ I ∈ wait, I.xfer_done = false) :
    (regsAfter S (issue :: wait)).fsm = .holding ∧ (regsAfter S (issue :: wait)).xfer_busy = true ∧
      (regsAfter S (issue :: wait)).ts_reg = issue.rtc_in := by
  obtain ⟨hrI, hrs⟩ := List.forall_mem_cons.mp hr
  rw [regsAfter_cons, ← next_eq_reference, next_issue hrI hf hb]
  exact regsAfter_of_unanswered hf rfl hrs hd

/-- The answer and the CFG6 ticks of SETTLE lead to the reset pulse (R78, R80). -/
theorem regsAfter_settle (hf : S.fsm = .holding) (hb : S.xfer_busy = true)
    (hp : S.cancel_pending = false) (hd : done.xfer_done = true) (he : done.xfer_err = false)
    (hcalm : ∀ I ∈ done :: settle, calmLine I) (hlen : settle.length = S.CFG6.toNat) :
    let T := regsAfter S (done :: settle)
    T.fsm = .resetPulse ∧ T.cnt = S.CFG7 ∧ T.ts_reg = S.ts_reg ∧
      T.code_reg = codeOf done.xfer_rx0 done.xfer_rx1 := by
  obtain ⟨hI, hsettle⟩ := List.forall_mem_cons.mp hcalm
  have hcn : Machine.cancelNow (hostCode done) S = false := by
    rw [← reference_cancelNow_eq, cancelNow_of_calm hI hp]
  rw [regsAfter_cons]
  obtain ⟨h, -⟩ | ⟨-, h, -⟩ | ⟨-, -, h, -⟩ | ⟨-, -, -, h6, e⟩ | ⟨-, -, -, h6, e⟩ :=
    next_holding_cases (c := hostCode done) (dec := codeOf) hI.1 hf hb
  · simp [hd] at h
  · simp [he] at h
  · simp [hcn] at h
  · rw [next_eq_reference] at e
    have hpos : 1 ≤ S.CFG6.toNat := Nat.one_le_iff_ne_zero.mpr (mt toNat_eq_zero_iff.mp h6)
    obtain ⟨U, J, hlast, hr, hcn, hfsm, hcnt, hts, hcode, hcfg⟩ := regsAfter_delay_last_of_calm
      (S := nextRegs S done) (ls := settle) (by rw [e]; rfl) (by rw [e]; rfl) hsettle
      (by rw [e]; exact hlen) (by rw [e]; exact hpos)
    have hfsm : U.fsm = .settle := by rw [hfsm, e]
    have h7 : U.CFG7 = S.CFG7 := by
      obtain ⟨-, -, -, -, -, -, -, h7, -⟩ := hcfg
      rw [h7, e]
      rfl
    rw [hlast, nextRegs_settle_last hr hfsm hcnt hcn]
    exact ⟨rfl, h7, by rw [e] at hts; exact hts, by rw [e] at hcode; exact hcode⟩
  · obtain rfl : settle = [] := by simpa [h6] using hlen
    rw [← next_eq_reference, e]
    exact ⟨rfl, rfl, rfl, rfl⟩

/-- The reset pulse ends in WAIT_EDGE with the Sample (R81). -/
theorem regsAfter_pulse (hf : S.fsm = .resetPulse) (hp : S.cancel_pending = false)
    (hcalm : ∀ I ∈ pulse, calmLine I) (hlen : pulse.length = S.cnt.toNat) (hpos : 1 ≤ S.cnt.toNat) :
    let T := regsAfter S pulse
    T.fsm = .waitEdge ∧ T.emit = true ∧ T.fail = false ∧ T.ts_reg = S.ts_reg ∧
      T.code_reg = S.code_reg := by
  obtain ⟨U, J, hlast, hr, hcn, hfsm, hcnt, hts, hcode, -⟩ :=
    regsAfter_delay_last_of_calm (inDelay_iff.mpr (.inr (.inr hf))) hp hcalm hlen hpos
  rw [hlast, nextRegs_resetPulse_last hr (hfsm.trans hf) hcnt hcn]
  exact ⟨rfl, rfl, rfl, hts, hcode⟩

end Sys2Proof.Reference
end

section
/-! The statements of 41_sequencer.md. -/

namespace Sys2Proof.Machine

/-- Settles O28: the four cases of the WAIT_EDGE rule. -/
theorem waitEdgeTick : Obligations.WaitEdgeTick := by
  intro s hr hf
  refine ⟨by simp [hf, Fsm.code], ?_⟩
  rw [step_eq_next, reference_cancelNow_eq, ← rising_iff, ne_eq, toNat_eq_zero_iff]
  obtain ⟨hc, e⟩ | ⟨hc, hx, e⟩ | ⟨hc, hx, h5, e⟩ | ⟨hc, hx, h5, e⟩ :=
    next_waitEdge_cases (c := hostCode s.inputs) (dec := selectedDecoder s.regs) hr hf
  · exact ⟨fun _ => by rw [e]; rfl, by simp [hc], by simp [hc], by simp [hc]⟩
  · exact ⟨by simp [hc], by simp [hx], by simp [hx], fun _ _ => by rw [e]; rfl⟩
  · exact ⟨by simp [hc], fun _ _ _ => by rw [e]; rfl, fun _ _ h => absurd h5 h, by simp [hx]⟩
  · exact ⟨by simp [hc], fun _ _ h => absurd h h5, fun _ _ _ => by rw [e]; rfl, by simp [hx]⟩

/-- Settles O29: the three cases of the PEAKING rule. -/
theorem peakingTick : Obligations.PeakingTick := by
  intro s hr hf
  refine ⟨by simp [hf, Fsm.code], ?_⟩
  rw [step_eq_next, reference_cancelNow_eq]
  obtain ⟨hn, e⟩ | ⟨hn, hc, e⟩ | ⟨hn, hc, e⟩ :=
    next_peaking_cases (c := hostCode s.inputs) (dec := selectedDecoder s.regs) hr hf
  · rw [e, ofNat_toNat_sub_one hn]
    exact ⟨fun _ => rfl, fun _ => by omega, fun _ => by omega⟩
  · rw [e]
    exact ⟨fun _ => by omega, fun _ _ => rfl, by simp [hc]⟩
  · rw [e]
    exact ⟨fun _ => by omega, by simp [hc], fun _ _ => rfl⟩

/-- Settles O33: the three cases of the SETTLE rule. -/
theorem settleTick : Obligations.SettleTick := by
  intro s hr hf
  refine ⟨by simp [hf, Fsm.code], ?_⟩
  rw [step_eq_next, reference_cancelNow_eq]
  obtain ⟨hn, e⟩ | ⟨hn, hc, e⟩ | ⟨hn, hc, e⟩ :=
    next_settle_cases (c := hostCode s.inputs) (dec := selectedDecoder s.regs) hr hf
  · rw [e, ofNat_toNat_sub_one hn]
    exact ⟨fun _ => rfl, fun _ => by omega, fun _ => by omega⟩
  · rw [e]
    exact ⟨fun _ => by omega, fun _ _ => rfl, by simp [hc]⟩
  · rw [e]
    exact ⟨fun _ => by omega, by simp [hc], fun _ _ => rfl⟩

/-- Settles O34: the two cases of the RESET_PULSE rule; the Sample does not depend on the request. -/
theorem resetPulseTick : Obligations.ResetPulseTick := by
  intro s hr hf
  refine ⟨by simp [hf, Fsm.code], ?_⟩
  rw [step_eq_next, reference_cancelNow_eq]
  obtain ⟨hn, e⟩ | ⟨hn, e⟩ :=
    next_resetPulse_cases (c := hostCode s.inputs) (dec := selectedDecoder s.regs) hr hf
  · rw [e, ofNat_toNat_sub_one hn]
    exact ⟨fun _ => rfl, fun _ => by omega⟩
  · rw [e]
    exact ⟨fun _ => by omega, fun _ => rfl⟩

/-- Settles O30: the issue rule, which samples neither xfer_done nor a cancellation. -/
theorem holdingIssueTick : Obligations.HoldingIssueTick := by
  intro s hr hf hb
  rw [step_eq_next, next_issue hr hf hb, reference_cancelNow_eq]
  refine ⟨rfl, by simp [hf], by simp [hf, hb], rfl, by simp [hf, Fsm.code], ?_⟩
  rintro (h | h)
  · simp [h, encodeCommand_zero]
  · simp [h, encodeCommand_one]

/-- Settles O31: the waiting tick and the three successful completions of the HOLDING rule. -/
theorem holdingWaitAndSuccessTick : Obligations.HoldingWaitAndSuccessTick := by
  intro s hr hf hb
  refine ⟨by simp [hf, hb, Fsm.code], ?_⟩
  rw [step_eq_next, reference_cancelNow_eq, ne_eq, toNat_eq_zero_iff]
  obtain ⟨hd, e⟩ | ⟨hd, he, -⟩ | ⟨hd, he, hc, e⟩ | ⟨hd, he, hc, h6, e⟩ | ⟨hd, he, hc, h6, e⟩ :=
    next_holding_cases (c := hostCode s.inputs) (dec := selectedDecoder s.regs) hr hf hb
  · rw [e]
    exact ⟨fun _ => rfl, by simp [hd]⟩
  · simp [hd, he]
  · rw [e]
    exact ⟨by simp [hd], fun _ _ => ⟨fun _ => rfl, by simp [hc], by simp [hc]⟩⟩
  · rw [e]
    exact ⟨by simp [hd], fun _ _ => ⟨by simp [hc], fun _ _ => rfl, fun _ h => absurd h h6⟩⟩
  · rw [e]
    exact ⟨by simp [hd], fun _ _ => ⟨by simp [hc], fun _ h => absurd h6 h, fun _ _ => rfl⟩⟩

/-- Settles O32: the failed completion of the HOLDING rule, which leaves HOLDING either way. -/
theorem holdingFailureTick : Obligations.HoldingFailureTick := by
  intro s hr hf hb hdone herr
  rw [step_eq_next, next_failure hr hf hb hdone herr, reference_cancelNow_eq]
  refine ⟨by simp [hf, Fsm.code], _, rfl, rfl, ?_, rfl, rfl⟩
  cases hc : cancelNow (hostCode s.inputs) s.regs <;> simp 

/-- Settles O39: each output by its own equation; while running, the invariant's channel has a byte. -/
theorem outputEquations : Obligations.OutputEquations := by
  intro s
  refine ⟨_, _, step_eq s, rfl, rfl, rfl, outputs_xfer_start _, outputs_xfer_tx0 _, rfl, rfl, rfl, rfl,
    rfl, rfl, rfl, rfl, rfl, outputs_running _, rfl, rfl, rfl, fun hinv hbyte => ?_⟩
  have hchan : ¬(s.regs.CFG3.toNat = 0 ∨ s.regs.CFG3.toNat = 1) := by
    rintro (h | h) <;> simp [h] at hbyte
  have hidle : s.regs.fsm = .idle := by
    by_contra hf
    exact hchan (hinv.channel hf)
  refine ⟨hidle, ?_, by simp [hidle]⟩
  rw [← Bool.not_eq_true]
  exact fun hv => hchan (hinv.legal hv).1

/-- Settles O36: the request's own equation, and the moves of `fsm` with a request. -/
theorem cancellationHonouredOnlyAtHonouringPoints :
    Obligations.CancellationHonouredOnlyAtHonouringPoints := by
  intro s t hr h
  rw [step_next_regs h, Reference.nextRegs_cancel_pending hr, Reference.nextRegs_fsm hr]
  refine ⟨rfl, fun hc hp => ?_, fun hc hp => ?_⟩
  · have hidle := (Reference.nextFsm_eq_idle_iff (Reference.fsm_ne_idle_of_cancelNow hc)).mpr
      (Reference.honoured_iff.mpr ⟨hc, hp⟩)
    simp [hidle]
  · have hkept := Reference.nextFsm_of_not_moves (Reference.moves_eq_false_of_request hc hp)
    simp [hkept, hc, Reference.fsm_ne_idle_of_cancelNow hc]

/-- Settles O47: honouring a cancellation is the only way from a running state to IDLE. -/
theorem onlyCancellationStopsTheLoop : Obligations.OnlyCancellationStopsTheLoop := by
  intro s t _ hr h hf
  rw [step_next_regs h, Reference.nextRegs_fsm hr, Reference.nextFsm_eq_idle_iff hf,
    Reference.honoured_iff]

/-- Settles O45: `enter_hold` clears xfer_busy, the issue tick sets it, and a completion leaves HOLDING. -/
theorem holdBracketsOneExchange : Obligations.HoldBracketsOneExchange := by
  intro s t hr h
  refine ⟨fun hf ht => ?_, fun hf hb => ?_, fun hf hb => ?_⟩
  · have hregs := step_next_regs h
    have hstart : Reference.startHold s.regs s.inputs = true :=
      Reference.startHold_of_nextFsm hf (by rw [← Reference.nextRegs_fsm hr, ← hregs, ht])
    have hbusy : t.regs.xfer_busy = false := by
      rw [hregs, Reference.nextRegs_xfer_busy hr, if_pos hstart]
    simp [ht, hbusy]
  · rw [step_eq_next, next_issue hr hf hb] at h
    cases h
    simp [tickBase, hf]
  · rw [step_eq_next] at h
    cases h
    obtain ⟨hd, e⟩ | ⟨hd, -, e⟩ | ⟨hd, -, -, e⟩ | ⟨hd, -, -, -, e⟩ | ⟨hd, -, -, -, e⟩ :=
      next_holding_cases (c := hostCode s.inputs) (dec := selectedDecoder s.regs) hr hf hb
    · simp [e, hd, tickBase, hf, hb]
    · cases hc : cancelNow (hostCode s.inputs) s.regs <;>
        simp [e, hd, tickBase, hc]
    all_goals simp [e, hd, tickBase]

/-- Settles O51: the run of a delay up to its last tick, and the last tick. -/
theorem delayStateLastsItsCount : Obligations.DelayStateLastsItsCount := by
  rintro _ s hd rfl hpos hlen hr
  refine ⟨fun k hk => ?_, ?_⟩
  · obtain ⟨u, hrun, hregs⟩ := Reference.runTicks_of_le (s := s) (n := k) (by omega)
    have hklen := List.length_take_of_le (show k ≤ s.script.length by omega)
    obtain ⟨hfsm, hcnt, -⟩ := Reference.regsAfter_of_delay hd
      (fun I hI => hr I ((List.take_subset_take_left _ hk.le) hI)) (by rw [hklen]; exact hk)
    rw [hklen] at hcnt
    exact ⟨u, hrun, hregs ▸ hfsm, hregs ▸ hcnt⟩
  · obtain ⟨t, hrun, hregs⟩ := Reference.runTicks_of_le hlen
    obtain ⟨init, I, hsplit, hlast, hfsm, hcnt, -⟩ :=
      Reference.regsAfter_delay_last hd hr (List.length_take_of_le hlen) hpos
    have hrI : I.rst = false := hr I (by simp [hsplit])
    rw [hlast] at hregs
    refine ⟨t, hrun, ?_, ?_⟩
    · rw [hregs, Reference.nextRegs_fsm hrI, ← hfsm]
      exact Reference.nextFsm_ne_of_delay_last (by rw [Reference.inDelay_congr hfsm, hd]) hcnt
    · rw [hregs, Reference.nextRegs_emit hrI, Reference.endPulse_iff, hfsm]
      exact and_iff_left hcnt

open Reference in
/-- Settles O52, phase by phase: a fact's name ends in the point of the cycle it is about, the issue tick,
the tick of the answer, the start of the reset pulse or the end. -/
theorem wholeCycleLatencies : Obligations.WholeCycleLatencies := by
  intro s edge issue done peak wait settle pulse rest hscript hcalm hf hp he hedge hwait hdone herr
    hpeak hsettle hpulse hpos
  obtain ⟨hcalmPeak, hcalmWait, hcalmSettle, hcalmPulse⟩ :
      (∀ I ∈ edge :: peak, calmLine I) ∧ (∀ I ∈ issue :: wait, calmLine I) ∧
        (∀ I ∈ done :: settle, calmLine I) ∧ ∀ I ∈ pulse, calmLine I := by
    simp only [← List.forall_mem_append]
    simpa using hcalm
  obtain ⟨hfIssue, hbIssue⟩ := regsAfter_peak hf hp he hedge hcalmPeak hpeak
  obtain ⟨-, hpIssue, hcfgIssue⟩ := regsAfter_of_calm hcalmPeak (by simp [hf]) hp
  obtain ⟨hfAnswer, hbAnswer, htsAnswer⟩ :=
    regsAfter_wait hfIssue hbIssue (fun I hI => (hcalmWait I hI).1) hwait
  obtain ⟨-, hpAnswer, hcfgAnswer⟩ := regsAfter_of_calm hcalmWait (by simp [hfIssue]) hpIssue
  obtain ⟨-, -, -, -, -, -, h6, h7, -⟩ := sameConfig_trans hcfgIssue hcfgAnswer
  obtain ⟨hfPulse, hcntPulse, htsPulse, hcodePulse⟩ :=
    regsAfter_settle hfAnswer hbAnswer hpAnswer hdone herr hcalmSettle (by rw [hsettle, h6])
  obtain ⟨-, hpPulse, -⟩ := regsAfter_of_calm hcalmSettle (by simp [hfAnswer]) hpAnswer
  obtain ⟨hfEnd, hemit, hfail, htsEnd, hcodeEnd⟩ := regsAfter_pulse hfPulse hpPulse hcalmPulse
    (by rw [hpulse, hcntPulse, h7]) (by rw [hcntPulse, h7]; exact hpos)
  simp only [← regsAfter_append] at *
  refine ⟨?hold, ?pulse, ?sample⟩
  case hold =>
    obtain ⟨t, hrun, hregs, -⟩ := runTicks_of_script (ls := edge :: peak) hscript
      (by rw [List.length_cons, hpeak])
    rw [← hregs] at hfIssue hbIssue
    exact ⟨t, hrun, by simp [hfIssue], by simp [hfIssue, hbIssue]⟩
  case pulse =>
    have hlen : s.regs.CFG5.toNat + s.regs.CFG6.toNat + (wait.length + 1) + 2 =
        (edge :: peak ++ issue :: wait ++ done :: settle).length := by
      simp [hpeak, hsettle]
      omega
    obtain ⟨t, hrun, hregs, -⟩ := runTicks_of_script (s := s) (rest := pulse ++ rest)
      (by simp [hscript]) hlen
    rw [← hregs] at hfPulse hcntPulse
    exact ⟨t, hrun, by simp [hfPulse], hcntPulse.trans h7⟩
  case sample =>
    have hlen : s.regs.CFG5.toNat + s.regs.CFG6.toNat + s.regs.CFG7.toNat + (wait.length + 1) + 2 =
        (edge :: peak ++ issue :: wait ++ done :: settle ++ pulse).length := by
      simp [hpeak, hsettle, hpulse]
      omega
    obtain ⟨t, hrun, hregs, hrest⟩ := runTicks_of_script (s := s) (rest := rest)
      (by simp [hscript]) hlen
    rw [← hregs] at hfEnd hemit hfail htsEnd hcodeEnd
    exact ⟨t, hrun, hfEnd, hrest, hemit, htsEnd.trans (htsPulse.trans htsAnswer),
      hcodeEnd.trans hcodePulse, hfail⟩

end Sys2Proof.Machine
end

section
/-! The bits of the validation mask, and the mask of operands that fit their ports (42_host_control.md
R92, R93). -/

namespace Sys2Proof.Machine

variable {P : Params}

/-- Bit 1 of the mask is the ResetHoldZero check. -/
theorem validate_getLsbD_one (e r h : BitVec P.wPin) (ch : BitVec P.wChan) (d : BitVec P.wDelay) :
    (validate e r h ch d).getLsbD 1 = (d == 0#P.wDelay) := by
  simp only [validate, BitVec.getLsbD_append]
  simp

/-- Bit 2 of the mask is the AliasedPins check. -/
theorem validate_getLsbD_two (e r h : BitVec P.wPin) (ch : BitVec P.wChan) (d : BitVec P.wDelay) :
    (validate e r h ch d).getLsbD 2 = (e == r || e == h || r == h) := by
  simp only [validate, BitVec.getLsbD_append]
  simp

/-- Operands that fit are validated as the naturals they are (R58, R8). -/
theorem validatePorts_portsOfOperands {a : AcqConfig} (h : a.fits P = true) :
    validatePorts (portsOfOperands P a) =
      Reference.mask a.edgePin a.resetPin a.holdPin a.adcChannel a.resetHoldDuration := by
  rw [validatePorts_eq_portMask]
  conv_rhs => rw [← operandsOfPorts_portsOfOperands h]
  rfl

end Sys2Proof.Machine
end

section
/-! Outside IDLE a host command is seen through cancel_now alone (41_sequencer.md R70, R71;
42_host_control.md R92, R94, R95). -/

namespace Sys2Proof.Reference

open Sys2Proof.Machine

variable {P : Params} {S : Regs P} {I : Inputs P}

/-- Outside IDLE the command, its operands and the pending request reach the registers through cancel_now
alone. -/
theorem nextRegs_of_running (b : Bool) (w : BitVec 2) (p : CfgPorts P) (hf : S.fsm ≠ .idle)
    (hc : cancelNow { S with cancel_pending := b } { I with host_cmd := w, cfg := p } = cancelNow S I) :
    nextRegs { S with cancel_pending := b } { I with host_cmd := w, cfg := p } = nextRegs S I := by
  have hload : load { S with cancel_pending := b } { I with host_cmd := w, cfg := p } = false :=
    load_eq_false (S := { S with cancel_pending := b }) hf
  have hstart : start { S with cancel_pending := b } { I with host_cmd := w, cfg := p } = false :=
    start_eq_false (S := { S with cancel_pending := b }) hf
  have hfsm : nextFsm { S with cancel_pending := b } { I with host_cmd := w, cfg := p } =
      nextFsm S I := by
    simp only [nextFsm, honoured, startPeak, startHold, edgeTaken, startSettle, startReset, hc, hstart,
      start_eq_false hf]
    rfl
  simp only [nextRegs, startPeak, startHold, edgeTaken, startSettle, startReset, hc, hfsm, hload,
    load_eq_false hf]
  rfl

end Sys2Proof.Reference
end

section
/-! A host command's tick: its effect in IDLE (41_sequencer.md R74), where it leads to from WAIT_EDGE and
RESET_PULSE (R75, R81), and which commands run alike outside IDLE (R71). -/

namespace Sys2Proof.Machine

variable {P : Params} {c : HostCode} {dec : Byte → Byte → Code} {S : Regs P} {I : Inputs P}

/-! The host commands but LOAD_CONFIG as one application of the next-state function (R70). -/

theorem exec_nop (s : State) : exec .nop s = .next (Reference.after s
    (next .nop (selectedDecoder s.regs) s.regs s.inputs)) := rfl

theorem exec_start (s : State) : exec .start s = .next (Reference.after s
    (next .start (selectedDecoder s.regs) s.regs s.inputs)) := rfl

theorem exec_cancel (s : State) : exec .cancel s = .next (Reference.after s
    (next .cancel (selectedDecoder s.regs) s.regs s.inputs)) := rfl

/-! The state rules with the command known. -/

/-- In IDLE a command that is neither LOAD_CONFIG nor an accepted START leaves the defaults (R74). -/
theorem next_idle_defaults (hr : I.rst = false) (hf : S.fsm = .idle) (hl : c ≠ .loadConfig)
    (hs : c = .start → S.cfg_valid = false) : next c dec S I = tickBase I S := by
  obtain ⟨hc, -⟩ | ⟨hc, hv, -⟩ | ⟨-, -, e⟩ := next_idle_cases (c := c) (dec := dec) hr hf
  · exact absurd hc hl
  · simp [hs hc] at hv
  · exact e

/-- In IDLE a START with a valid configuration enters WAIT_EDGE (R94). -/
theorem next_idle_start (hr : I.rst = false) (hf : S.fsm = .idle) (hv : S.cfg_valid = true) :
    next .start dec S I = { tickBase I S with fsm := .waitEdge } := by
  obtain ⟨hc, -⟩ | ⟨-, -, e⟩ | ⟨-, hs, -⟩ := next_idle_cases (c := .start) (dec := dec) hr hf
  · cases hc
  · exact e
  · simp [hs rfl] at hv

/-- In WAIT_EDGE a cancellation is tested before the edge (R75). -/
theorem next_waitEdge_cancelled (hr : I.rst = false) (hf : S.fsm = .waitEdge)
    (hc : cancelNow c S = true) : next c dec S I = { tickBase I S with fsm := .idle } := by
  obtain ⟨-, e⟩ | ⟨hn, -⟩ | ⟨hn, -⟩ | ⟨hn, -⟩ := next_waitEdge_cases (c := c) (dec := dec) hr hf
  · exact e
  all_goals simp [hc] at hn

/-- At the last RESET_PULSE tick the Sample is emitted, cancelled or not (R81). -/
theorem next_resetPulse_last (hr : I.rst = false) (hf : S.fsm = .resetPulse) (hn : S.cnt.toNat ≤ 1) :
    next c dec S I = { tickBase I S with
      cnt := 0#P.wDelay, emit := true, fsm := if cancelNow c S then .idle else .waitEdge } := by
  obtain ⟨h2, -⟩ | ⟨-, e⟩ := next_resetPulse_cases (c := c) (dec := dec) hr hf
  · omega
  · exact e

/-- Outside IDLE a CANCEL is a request from its own tick on (R71). -/
theorem cancelNow_cancel (hf : S.fsm ≠ .idle) : cancelNow .cancel S = true :=
  cancelNow_iff.mpr ⟨hf, .inr rfl⟩

/-! Outside IDLE. -/

/-- A host command's tick is that of its line (R52, R70). -/
theorem hostTick_eq_reference (c : HostCode) (I : Inputs P) (s : Generic.State P) :
    hostTick c I s = .next (Reference.after s
      (Reference.nextRegs s.regs { I with host_cmd := hostCodeWord c })) := by
  rw [hostTick, selectedDecoder_eq_codeOf, ← next_eq_reference]
  cases c <;> rfl

/-- Outside IDLE a command whose cancel_now is that of NOP with a request `b` runs as that NOP, whatever
stands on the cfg_* ports (R71, R92, R94, R95). -/
theorem hostTick_of_running (b : Bool) (p : CfgPorts P) {s : Generic.State P} (hf : s.regs.fsm ≠ .idle)
    (hc : cancelNow .nop { s.regs with cancel_pending := b } = cancelNow c s.regs) :
    hostTick c { s.inputs with cfg := p } s =
      hostTick .nop s.inputs { s with regs := { s.regs with cancel_pending := b } } := by
  have hregs := Reference.nextRegs_of_running b (hostCodeWord .nop) s.inputs.cfg
    (I := { s.inputs with host_cmd := hostCodeWord c, cfg := p }) hf (by
      rw [reference_cancelNow_eq, reference_cancelNow_eq]
      cases c <;> exact hc)
  rw [hostTick_eq_reference, ← hregs, hostTick_eq_reference]
  rfl

end Sys2Proof.Machine
end

section
/-! The statements of 42_host_control.md. -/

namespace Sys2Proof.Machine

/-- Settles O13: each bit is its own check. -/
theorem validateChecksThreeConditions : Obligations.ValidateChecksThreeConditions := by
  intro P e r h ch d
  refine ⟨?_, ?_, ?_⟩
  · rw [validate_getLsbD_zero, Bool.not_eq_true', ← Bool.not_eq_true, channelValid_iff]
  · rw [validate_getLsbD_one, beq_iff_eq, toNat_eq_zero_iff]
  · simp only [validate_getLsbD_two, Bool.or_eq_true, beq_iff_eq, or_assoc]

/-- Settles O14: NOP's tick is that of its line; in IDLE it leaves the defaults, and in WAIT_EDGE the
pending request is honoured. -/
theorem nopRunsTheStateRule : Obligations.NopRunsTheStateRule := by
  refine fun s => ⟨exec_eq_reference .nop s, fun hr hf => ?_, fun hr hf hp => ?_⟩
  · rw [exec_nop, next_idle_defaults hr hf (by simp) (by simp)]
    rfl
  · rw [exec_nop, next_waitEdge_cancelled hr hf (cancelNow_iff.mpr ⟨by simp [hf], .inl hp⟩)]
    rfl

/-- Settles O15: in IDLE the rule writes the operands and their mask; elsewhere LOAD_CONFIG is no request,
and its operands are not read. -/
theorem loadConfigWritesAndValidates : Obligations.LoadConfigWritesAndValidates := by
  refine fun s a hr ha => ⟨fun hf => ?_, fun hf =>
    ⟨hostTick_of_running s.regs.cancel_pending (portsOfOperands _ a) hf rfl, _, rfl⟩⟩
  rw [exec_loadConfig_of_idle hr hf, loadConfigRule, validatePorts_portsOfOperands ha]
  rfl

/-- Settles O16: in IDLE the verdict decides; elsewhere START is no request. -/
theorem startLeavesIdleWhenValid : Obligations.StartLeavesIdleWhenValid := by
  refine fun s hr => ⟨fun hf hv => ?_, fun hf hv => ?_, fun hf =>
    ⟨hostTick_of_running s.regs.cancel_pending s.inputs.cfg hf rfl, _, rfl⟩⟩
  · rw [exec_start, next_idle_start hr hf hv]
    rfl
  · rw [exec_start, next_idle_defaults hr hf (by simp) (fun _ => hv)]
    rfl

/-- Settles O17: outside IDLE CANCEL counts as NOP with the request pending, which an honouring point then
takes; the reports of RESET_PULSE and of a failed completion do not depend on it. -/
theorem cancelActsAsPendingRequest : Obligations.CancelActsAsPendingRequest := by
  intro s hr
  refine ⟨fun hf => ?idle, fun hf => ⟨?pending, _, rfl⟩, fun hf hp => ?again,
    fun hf => ?waitEdge, fun hf hn => ⟨_, exec_cancel s, ?pulse⟩,
    fun hf hb hd he => ⟨_, exec_cancel s, ?failure⟩⟩
  case idle =>
    rw [exec_cancel, next_idle_defaults hr hf (by simp) (by simp)]
    rfl
  case pending => exact hostTick_of_running true s.inputs.cfg hf (by simp [cancelNow])
  case again =>
    exact hostTick_of_running s.regs.cancel_pending s.inputs.cfg hf (by simp [cancelNow, hp])
  case waitEdge =>
    rw [exec_cancel, next_waitEdge_cancelled hr hf (cancelNow_cancel (by simp [hf]))]
    rfl
  case pulse =>
    rw [after_regs, next_resetPulse_last hr hf hn, cancelNow_cancel (by simp [hf])]
    exact ⟨rfl, rfl⟩
  case failure =>
    rw [after_regs, next_failure hr hf hb hd he, cancelNow_cancel (by simp [hf])]
    exact ⟨rfl, rfl, rfl⟩

end Sys2Proof.Machine
end

section
/-! Answers on the receive ports: they are read while an exchange is in flight and nowhere else, and only
then does a failure report come (60_exceptions.md R104 (5), R106; 41_sequencer.md R77 to R79). -/

namespace Sys2Proof.Reference

open Sys2Proof.Machine

variable {P : Params} {S : Regs P} {I J : Inputs P}

/-- An exchange has been issued and is not yet completed: HOLDING after its issue tick (R17, R78). -/
abbrev inFlight (S : Regs P) : Prop := S.fsm = .holding ∧ S.xfer_busy = true

theorem complete_eq_false_of_not_inFlight (h : ¬inFlight S) : complete S I = false := by
  rw [← Bool.not_eq_true]
  intro hc
  simp only [complete, Bool.and_eq_true, decide_eq_true_eq] at hc
  obtain ⟨hflight, -⟩ := hc
  exact h hflight

/-- With no exchange in flight the five answer ports are not sampled (R32). -/
theorem sameSampled_of_not_inFlight (h : ¬inFlight S) (hrst : I.rst = J.rst)
    (hedge : I.edge_in = J.edge_in) (hcmd : I.host_cmd = J.host_cmd) (hcfg : I.cfg = J.cfg)
    (hrtc : I.rtc_in = J.rtc_in) : sameSampled S I J := by
  have hc : complete S I = false := complete_eq_false_of_not_inFlight h
  exact ⟨hrst, hedge, hcmd, fun _ => hcfg, fun _ => hrtc, fun hb => absurd hb h,
    by simp [hc], by simp [success, hc], by simp [failure, hc]⟩

/-- A failure report is raised by a failed completion outside a reset tick (R22, R114). -/
theorem nextRegs_fail_iff : (nextRegs S I).fail = true ↔ I.rst = false ∧ failure S I = true := by
  cases hr : I.rst
  · simp [nextRegs_fail hr]
  · simp [nextRegs_rst hr, Regs.reset]

theorem nextRegs_fail_eq_false (h : ¬inFlight S) : (nextRegs S I).fail = false := by
  rw [← Bool.not_eq_true, nextRegs_fail_iff, failure_iff]
  rintro ⟨-, hf, hb, -⟩
  exact h ⟨hf, hb⟩

/-- The tick that raises a failure report leaves HOLDING (R79, R105). -/
theorem nextRegs_fsm_ne_holding_of_fail (h : (nextRegs S I).fail = true) :
    (nextRegs S I).fsm ≠ .holding := by
  obtain ⟨hr, hfail⟩ := nextRegs_fail_iff.mp h
  obtain ⟨hf, -⟩ := failure_iff.mp hfail
  rw [nextRegs_fsm hr, nextFsm_holding hf, hfail]
  cases honoured S I <;> simp

/-- A tick outside HOLDING leaves no exchange in flight: HOLDING begins with its issue tick (R73). -/
theorem not_inFlight_nextRegs (hf : S.fsm ≠ .holding) : ¬inFlight (nextRegs S I) := by
  rintro ⟨hf', hb'⟩
  cases hr : I.rst
  · rw [nextRegs_fsm hr] at hf'
    simp [nextRegs_xfer_busy hr, startHold_of_nextFsm hf hf'] at hb'
  · simp [nextRegs_rst hr, Regs.reset] at hf'

end Sys2Proof.Reference
end

section
/-! Runs along which the machine reports nothing, by an invariant of the registers and the lines to come,
and the two waits that have no timeout: the one for an edge and the one for an answer (60_exceptions.md R102,
R110; 70_reset_and_hazards.md R120). -/

namespace Sys2Proof.Reference

open Sys2Proof.Machine

variable {P : Params} {S : Regs P} {I : Inputs P} {ls : List (Inputs P)}

/-- Neither report is shown (R82). -/
def silent (S : Regs P) : Prop :=
  (outputs S).sample_valid = false ∧ (outputs S).fail_valid = false

/-- An invariant `p` of the registers and the lines to come that every tick keeps, reporting nothing, holds
at the end of the lines, where nothing is reported. -/
theorem regsAfter_silent {p : Regs P → List (Inputs P) → Prop}
    (htick : ∀ S I ls, p S (I :: ls) → p (nextRegs S I) ls ∧ silent (nextRegs S I)) (h : p S ls) :
    p (regsAfter S ls) [] ∧ (1 ≤ ls.length → silent (regsAfter S ls)) := by
  induction ls generalizing S with
  | nil => exact ⟨h, by simp⟩
  | cons I ls ih =>
    obtain ⟨hp, hsilent⟩ := htick S I ls h
    obtain ⟨hend, hlast⟩ := ih hp
    refine ⟨hend, fun _ => ?_⟩
    cases ls with
    | nil => exact hsilent
    | cons J ls => exact hlast (by simp)

/-- The same for a run along the first `n` lines of the script. -/
theorem runTicks_silent {p : Regs Config.params → List (Inputs Config.params) → Prop}
    (htick : ∀ S I ls, p S (I :: ls) → p (nextRegs S I) ls ∧ silent (nextRegs S I))
    {n : Nat} {s : State} (hn : n ≤ s.script.length) (h : p s.regs (s.script.take n)) :
    ∃ t, runTicks n s = .next t ∧ p t.regs [] ∧ (1 ≤ n → silent t.regs) := by
  obtain ⟨t, ht, hregs⟩ := runTicks_of_le hn
  have hend := regsAfter_silent htick h
  rw [← hregs, List.length_take_of_le hn] at hend
  exact ⟨t, ht, hend⟩

/-! Waiting for an edge. -/

/-- WAIT_EDGE with no request, the lines `ls` to come neither cancelling nor raising the trigger (R102). -/
structure StalledEdgeWait (S : Regs P) (ls : List (Inputs P)) : Prop where
  fsm : S.fsm = .waitEdge
  noRequest : S.cancel_pending = false
  calm : ∀ I ∈ ls, calmLine I
  noEdge : neverRises S.edge_prev ls

/-- Without a request and without an edge WAIT_EDGE leaves the defaults (R75). -/
theorem nextRegs_of_no_edge (hr : I.rst = false) (hf : S.fsm = .waitEdge) (hc : cancelNow S I = false)
    (hx : S.edge_prev = true ∨ I.edge_in = false) : nextRegs S I = tickBase I S := by
  rw [reference_cancelNow_eq] at hc
  have hrise : rising S I = false := by obtain h | h := hx <;> simp [rising, h]
  rw [← next_eq_reference]
  obtain ⟨hc', -⟩ | ⟨-, -, e⟩ | ⟨-, hx', -⟩ | ⟨-, hx', -⟩ :=
    next_waitEdge_cases (c := hostCode I) (dec := codeOf) hr hf
  · simp [hc] at hc'
  · exact e
  all_goals simp [hrise] at hx'

theorem StalledEdgeWait.tick (h : StalledEdgeWait S (I :: ls)) :
    StalledEdgeWait (nextRegs S I) ls ∧ silent (nextRegs S I) := by
  obtain ⟨hf, hp, hcalm, hx, hnever⟩ := h
  obtain ⟨hI, hcalm⟩ := List.forall_mem_cons.mp hcalm
  rw [nextRegs_of_no_edge hI.1 hf (cancelNow_of_calm hI hp) hx]
  exact ⟨⟨hf, rfl, hcalm, hnever⟩, rfl, rfl⟩

/-! Waiting for an answer. -/

/-- HOLDING, no line of `ls` resetting the block or answering in a tick that samples xfer_done, which the
issue tick does not (R77, R110, R120). -/
structure UnansweredExchange (S : Regs P) (ls : List (Inputs P)) : Prop where
  fsm : S.fsm = .holding
  noReset : ∀ I ∈ ls, I.rst = false
  noAnswer : ∀ k I, ls[k]? = some I → S.xfer_busy = true ∨ 1 ≤ k → I.xfer_done = false

theorem UnansweredExchange.tick (h : UnansweredExchange S (I :: ls)) :
    UnansweredExchange (nextRegs S I) ls ∧ silent (nextRegs S I) := by
  obtain ⟨hf, hr, hd⟩ := h
  obtain ⟨hrI, hrs⟩ := List.forall_mem_cons.mp hr
  have hds (k : Nat) (J : Inputs P) (hJ : ls[k]? = some J) : J.xfer_done = false :=
    hd (k + 1) J hJ (.inr k.succ_pos)
  cases hb : S.xfer_busy
  · rw [← next_eq_reference, next_issue hrI hf hb]
    exact ⟨⟨hf, hrs, fun k J hJ _ => hds k J hJ⟩, rfl, rfl⟩
  · rw [nextRegs_of_unanswered hrI hf hb (hd 0 I rfl (.inl hb))]
    exact ⟨⟨hf, hrs, fun k J hJ _ => hds k J hJ⟩, rfl, rfl⟩

end Sys2Proof.Reference
end

section
/-! The statements of 60_exceptions.md. -/

namespace Sys2Proof.Machine

/-- Settles O20: the row's tick is that of its line, whose answer ports are not sampled. -/
theorem strayResponseIsIgnored : Obligations.StrayResponseIsIgnored := by
  intro s i b0 b1 hi hb
  have hregs : next (hostCode s.inputs) Reference.codeOf s.regs (withResponse b0 b1 s.inputs) =
      Reference.nextRegs s.regs { s.inputs with xfer_done := false } :=
    (next_eq_reference s.regs (withResponse b0 b1 s.inputs)).trans
      (Reference.nextRegs_eq_of_sameSampled
        (Reference.sameSampled_of_not_inFlight hb rfl rfl rfl rfl rfl))
  rw [exec_responseRow s hi, hregs]

/-- Settles O53: every tick keeps the wait for an edge, and reports nothing. -/
theorem stalledEdgeWaitReportsNothing : Obligations.StalledEdgeWaitReportsNothing := by
  intro n s hf hp hn hcalm hnever
  obtain ⟨t, hrun, hwait, hsilent⟩ := Reference.runTicks_silent
    (p := Reference.StalledEdgeWait) (fun _ _ _ h => h.tick) hn ⟨hf, hp, hcalm, hnever⟩
  exact ⟨t, hrun, hwait.fsm, hsilent⟩

/-- Settles O54: every tick keeps the wait for an answer, and reports nothing. -/
theorem unansweredExchangeHangsInHolding : Obligations.UnansweredExchangeHangsInHolding := by
  intro n s hf hn hr hd
  have hd' (k : Nat) (I : Inputs Config.params) (hI : (s.script.take n)[k]? = some I) :
      s.regs.xfer_busy = true ∨ 1 ≤ k → I.xfer_done = false := by
    obtain ⟨hk, hI⟩ : k < n ∧ s.script[k]? = some I := by
      simpa [List.getElem?_take] using hI
    exact hd k I hI hk
  obtain ⟨t, hrun, hwait, hsilent⟩ := Reference.runTicks_silent
    (p := Reference.UnansweredExchange) (fun _ _ _ h => h.tick) hn ⟨hf, hr, hd'⟩
  exact ⟨t, hrun, hwait.fsm, by simp [hwait.fsm], hsilent⟩

/-- Settles O56: a failure report leaves HOLDING, and the next one takes a tick into HOLDING, the issue
tick and a completion. -/
theorem failureReportsAreThreeTicksApart : Obligations.FailureReportsAreThreeTicksApart := by
  intro s t u v hst htu huv hfail
  have hleft : t.regs.fsm ≠ .holding := by
    rw [step_next_regs hst] at hfail ⊢
    exact Reference.nextRegs_fsm_ne_holding_of_fail hfail
  have hnext : ¬Reference.inFlight u.regs := by
    rw [step_next_regs htu]
    exact Reference.not_inFlight_nextRegs hleft
  refine ⟨?_, ?_⟩
  · rw [step_next_regs htu]
    exact Reference.nextRegs_fail_eq_false fun h => hleft h.1
  · rw [step_next_regs huv]
    exact Reference.nextRegs_fail_eq_false hnext

/-- Settles O27: the equations of a step and of an instruction give the next state. -/
theorem everyTickHasANextState : Obligations.EveryTickHasANextState :=
  fun s => ⟨⟨_, step_eq_reference s⟩, fun i => ⟨_, exec_eq_reference i s⟩⟩

end Sys2Proof.Machine
end

section
/-! The reset tick and the outputs of the reset registers (10_state.md R34; 41_sequencer.md R82;
70_reset_and_hazards.md R114). -/

namespace Sys2Proof.Machine

theorem step_of_rst {s : State} (hr : s.inputs.rst = true) :
    step s = .next (Reference.after s (Regs.reset Config.params)) := by
  rw [step_eq_reference, Reference.nextRegs_rst hr]

theorem exec_regs_of_rst {s t : State} {i : Instr} (hr : s.inputs.rst = true)
    (h : exec i s = .next t) : t.regs = Regs.reset Config.params := by
  rw [exec_next_regs h, Reference.nextRegs_rst (by simp [hr])]

/-- The values R114 lists, and the rest: after reset CFG3 is 0, and the byte is channel 0's (R82). -/
theorem outputs_reset (P : Params) : outputs (Regs.reset P) =
    { hold_out := false, reset_out := false, xfer_start := false, xfer_tx0 := 0x68#8, xfer_tx1 := 0#8
      sample_valid := false, sample_ts := 0#P.wTs, sample_code := 0#10
      fail_valid := false, fail_cause := 0#P.wCause, cfg_valid_out := false, cfg_err_out := 0b000#3
      status_state := 0b000#3, running := false
      edge_pin_id := 0#P.wPin, reset_pin_id := 0#P.wPin, hold_pin_id := 0#P.wPin } := by
  have hbyte : selectedByte (Regs.reset P) = 0x68#8 := selectedByte_channel0 (by simp [Regs.reset])
  rw [outputs, hbyte]
  rfl

end Sys2Proof.Machine
end

section
/-! A LOAD_CONFIG and a START in IDLE by their codes on host_cmd (42_host_control.md R92, R94). -/

namespace Sys2Proof.Reference

open Sys2Proof.Machine

variable {P : Params} {S : Regs P} {I : Inputs P}

/-- LOAD_CONFIG in IDLE stays there, its verdict that of the ports of its tick (R92). -/
theorem nextRegs_loadConfig (hr : I.rst = false) (hf : S.fsm = .idle) (hc : I.host_cmd = 0b01#2) :
    (nextRegs S I).fsm = .idle ∧ (nextRegs S I).cfg_valid = decide (portMask I.cfg = 0b000#3) := by
  have hstart : start S I = false := by simp [start, hc]
  have hload : load S I = true := by simp [load, hf, hc]
  rw [nextRegs_fsm hr, nextFsm_idle hf, nextRegs_cfg_valid hr]
  simp [hstart, hload]

/-- START in IDLE is accepted as the verdict of the tick before says (R94). -/
theorem nextFsm_start (hf : S.fsm = .idle) (hc : I.host_cmd = 0b10#2) :
    nextFsm S I = if S.cfg_valid then .waitEdge else .idle := by
  have hstart : start S I = S.cfg_valid := by simp [start, hf, hc]
  rw [nextFsm_idle hf, hstart]

end Sys2Proof.Reference
end

section
/-! A request pending in a delay state: kept until the count has run, honoured in the last tick
(41_sequencer.md R71, R73, R76, R80, R81; 70_reset_and_hazards.md R124). -/

namespace Sys2Proof.Reference

open Sys2Proof.Machine

variable {P : Params} {S : Regs P} {I : Inputs P} {ls : List (Inputs P)}

theorem fsm_ne_idle_of_inDelay (hd : inDelay S = true) : S.fsm ≠ .idle := by
  obtain h | h | h := inDelay_iff.mp hd <;> simp [h]

theorem outputs_of_inDelay (hd : inDelay S = true) :
    (outputs S).running = true ∧ (outputs S).hold_out = false := by
  obtain h | h | h := inDelay_iff.mp hd <;> simp [h]

/-- A pending request counts in every tick of a running sequencer, whatever the host commands (R71). -/
theorem cancelNow_of_pending (hf : S.fsm ≠ .idle) (hp : S.cancel_pending = true) :
    cancelNow S I = true := by
  rw [reference_cancelNow_eq, cancelNow_iff]
  exact ⟨hf, .inl hp⟩

/-- Before its last tick a delay state keeps a pending request (R71, R73). -/
theorem regsAfter_pending_of_delay (hd : inDelay S = true) (hp : S.cancel_pending = true)
    (hr : ∀ I ∈ ls, I.rst = false) (hn : ls.length < S.cnt.toNat) :
    (regsAfter S ls).cancel_pending = true := by
  induction ls using List.reverseRecOn with
  | nil => exact hp
  | append_singleton init I ih =>
    obtain ⟨hinit, -⟩ := List.forall_mem_append.mp hr
    have hrI : I.rst = false := hr I (by simp)
    rw [List.length_append, List.length_singleton] at hn
    obtain ⟨hfsm, hcnt, -⟩ := regsAfter_of_delay hd hinit (by omega)
    have hdelay : inDelay (regsAfter S init) = true := by rw [inDelay_congr hfsm, hd]
    rw [regsAfter_append, regsAfter_cons, regsAfter_nil,
      nextRegs_of_delay hrI hdelay (by omega)]
    exact cancelNow_of_pending (fsm_ne_idle_of_inDelay hdelay) (ih hinit (by omega))

/-- The last tick of a delay honours a pending request; the Sample of RESET_PULSE comes all the same
(R76, R80, R81). -/
theorem nextRegs_delay_last_of_pending (hr : I.rst = false) (hd : inDelay S = true)
    (hp : S.cancel_pending = true) (hn : S.cnt.toNat ≤ 1) :
    (nextRegs S I).fsm = .idle ∧ (nextRegs S I).cancel_pending = false ∧
      ((nextRegs S I).emit = true ↔ S.fsm = .resetPulse) := by
  have hf : S.fsm ≠ .idle := fsm_ne_idle_of_inDelay hd
  have hpoint : honouringPoint S I = true := by simp [honouringPoint, hd, hn]
  have hidle : nextFsm S I = .idle :=
    (nextFsm_eq_idle_iff hf).mpr (honoured_iff.mpr ⟨cancelNow_of_pending hf hp, hpoint⟩)
  refine ⟨by rw [nextRegs_fsm hr, hidle], by simp [nextRegs_cancel_pending hr, hidle], ?_⟩
  rw [nextRegs_emit hr, endPulse_iff]
  exact and_iff_left hn

/-- With a pending request a delay state whose count has run is followed by IDLE (R124). -/
theorem regsAfter_delay_of_pending (hd : inDelay S = true) (hp : S.cancel_pending = true)
    (hr : ∀ I ∈ ls, I.rst = false) (hn : ls.length = S.cnt.toNat) (hpos : 1 ≤ S.cnt.toNat) :
    (regsAfter S ls).fsm = .idle ∧ (regsAfter S ls).cancel_pending = false ∧
      ((regsAfter S ls).emit = true ↔ S.fsm = .resetPulse) := by
  obtain ⟨init, I, rfl, hlast, hfsm, hcnt, -⟩ := regsAfter_delay_last hd hr hn hpos
  obtain ⟨hinit, -⟩ := List.forall_mem_append.mp hr
  have hrI : I.rst = false := hr I (by simp)
  rw [List.length_append, List.length_singleton] at hn
  have hreq := regsAfter_pending_of_delay hd hp hinit (by omega)
  rw [hlast, ← hfsm]
  exact nextRegs_delay_last_of_pending hrI (by rw [inDelay_congr hfsm, hd]) hreq hcnt

end Sys2Proof.Reference
end

section
/-! The statements of 70_reset_and_hazards.md. -/

namespace Sys2Proof.Machine

/-- Settles O58: the step is a reset tick, and the outputs after it are those of the reset registers. -/
theorem resetTickLeavesTheResetState : Obligations.ResetTickLeavesTheResetState := by
  refine fun s hr => ⟨_, _, step_of_rst hr, rfl, rfl, rfl, rfl, ?_⟩
  simp [outputs_reset]

/-- Settles O41: `rst` is read before the command, the codec and the state rules. -/
theorem resetTickWinsOverEverything : Obligations.ResetTickWinsOverEverything := by
  refine fun s hr => ⟨step_of_rst hr, fun i t => exec_regs_of_rst hr, ?_⟩
  simp [outputs_reset]

/-- Settles O55: the delay lasts its count, keeping the request, and its last tick honours it. -/
theorem pendingCancellationEndsTheDelayInIdle : Obligations.PendingCancellationEndsTheDelayInIdle := by
  rintro _ s hd hp rfl hpos hlen hr
  refine ⟨fun k hk => ?_, ?_⟩
  · obtain ⟨hstays, -⟩ := delayStateLastsItsCount _ s hd rfl hpos hlen hr
    obtain ⟨u, hrun, hfsm, -⟩ := hstays k hk
    exact ⟨u, hrun, Reference.outputs_of_inDelay (by rw [Reference.inDelay_congr hfsm, hd])⟩
  · obtain ⟨t, hrun, hregs⟩ := Reference.runTicks_of_le hlen
    obtain ⟨hidle, hreq, hemit⟩ :=
      Reference.regsAfter_delay_of_pending hd hp hr (List.length_take_of_le hlen) hpos
    rw [← hregs] at hidle hreq hemit
    exact ⟨t, hrun, by simp [hidle], by simp [hidle], by simp [hidle], hreq, hemit⟩

/-- Settles O57: LOAD_CONFIG leaves IDLE's registers with the verdict that START then reads. -/
theorem startSeesTheVerdictOfTheTickBefore : Obligations.StartSeesTheVerdictOfTheTickBefore := by
  intro s I J l hscript hI hJ hf hload hstart
  obtain ⟨t, hrun, hregs, -⟩ :=
    Reference.runTicks_of_script (n := 2) (ls := [I, J]) (rest := l) hscript rfl
  obtain ⟨hidle, hverdict⟩ := Reference.nextRegs_loadConfig hI hf hload
  have hfsm : t.regs.fsm = if Reference.portMask I.cfg = 0b000#3 then .waitEdge else .idle := by
    rw [hregs, Reference.regsAfter_cons, Reference.regsAfter_cons, Reference.regsAfter_nil,
      Reference.nextRegs_fsm hJ, Reference.nextFsm_start hidle hstart, hverdict]
    simp
  exact ⟨t, hrun, fun hm => hfsm.trans (if_pos hm), fun hm => hfsm.trans (if_neg hm)⟩

end Sys2Proof.Machine
end
